-- ==== Sys2Proof/Word.lean ====
section
/-! DEFINITION. The words of the part: bytes and the 16-bit and 32-bit fields of its frames (R180). -/

namespace Sys2Proof

/-- One byte of a frame or of a non-volatile cell. -/
abbrev Byte := BitVec 8

/-- A two-byte field of a frame. -/
abbrev Word16 := BitVec 16

/-- A four-byte field of a frame. -/
abbrev Word32 := BitVec 32

end Sys2Proof
end

