-- ==== Sys2Proof/Config.lean ====
section
/-! DEFINITION. The free values: what the spec leaves open and no definition of the model may decide. None has a
body, so nothing can be proved of a value of theirs. -/

namespace Sys2Proof.Config

/-- Whether an interrupted cell write left the captured contents (true) or the previous ones (false): R150 says it is
one of the two. Its argument counts the free values used so far (log 7). -/
opaque writeLanded : Nat → Bool

/-- Which of the expiries that fall in the same millisecond comes next: the spec lets events that come together be taken
in either order (R39, R106, R135). Its argument counts the free values used so far; the value counts through the model's
listing of the expiries (log 3). -/
opaque tieChoice : Nat → Nat

/-- What the 32-bit sent count of a drain holds after an increment at its greatest value, which no rule states
(log 20). -/
opaque sentCountPast : Nat → Nat

end Sys2Proof.Config
end

