-- ==== Sys2Proof/Machine/Bytes.lean ====
section
/-! DEFINITION. Clamps, saturating counts, byte order and the CRC-8 (sections 4 to 6 of the scope, R1, R180). -/

namespace Sys2Proof.Machine

/-- clamp(x, lo, hi): x raised to lo if it is below lo and lowered to hi if it is above hi (section 5). -/
def clampInt (x lo hi : Int) : Int := min (max x lo) hi

/-- The same clamp on unsigned values. -/
def clampNat (x lo hi : Nat) : Nat := min (max x lo) hi

/-- One more, unless the count stands at its greatest value or above. -/
def satInc (top n : Nat) : Nat := if n < top then n + 1 else n

/-- An addition that stops at the greatest value. -/
def satAdd (top n k : Nat) : Nat := if n + k ≤ top then n + k else max n top

/-- The greatest value of a 16-bit counter. -/
def max16 : Nat := 65535

/-- The greatest value of a 32-bit counter. -/
def max32 : Nat := 4294967295

/-- The greatest value of a 64-bit total. -/
def max64 : Nat := 18446744073709551615

/-- A record's value fields are signed 32-bit; a value outside is carried as the nearest end (R153). -/
def satValue (x : Int) : Int := clampInt x (-2147483648) 2147483647

/-- A value as bytes, least significant first (R180). -/
def leBytes : (width value : Nat) → List Byte
  | 0, _ => []
  | w + 1, v => BitVec.ofNat 8 v :: leBytes w (v / 256)

/-- A signed value in a field of `width` bytes, two's complement, least significant byte first (R180). -/
def leSigned (width : Nat) (x : Int) : List Byte := leBytes width (BitVec.ofInt (8 * width) x).toNat

/-- The value of bytes, least significant first. -/
def ofLeBytes : List Byte → Nat
  | [] => 0
  | b :: bs => b.toNat + 256 * ofLeBytes bs

/-- The byte at a place of a frame; a place past its end reads 0. -/
def byteAt (f : List Byte) (i : Nat) : Byte := f.getD i 0

/-- The unsigned field of `width` bytes that starts at byte `i`. -/
def fieldAt (f : List Byte) (i width : Nat) : Nat := ofLeBytes ((f.drop i).take width)

/-- One bit of the CRC-8: the generator x^8+x^4+x^3+x^2+1, most significant bit first (section 6). -/
def crcBit (c : Byte) : Byte := if c.msb then (c <<< 1) ^^^ 0x1D else c <<< 1

/-- One byte of the CRC-8. -/
def crcByte (c b : Byte) : Byte :=
  crcBit (crcBit (crcBit (crcBit (crcBit (crcBit (crcBit (crcBit (c ^^^ b))))))))

/-- The CRC-8 of a run of bytes: initial value FF, not reflected, no final XOR (section 6). -/
def crc8 (bs : List Byte) : Byte := bs.foldl crcByte 0xFF

/-- The bytes followed by their CRC-8. -/
def withCrc (bs : List Byte) : List Byte := bs ++ [crc8 bs]

/-- A list of bytes cut or filled with zeros to a length: no field occupies the filled bytes (R180). -/
def padTo (n : Nat) (bs : List Byte) : List Byte := (bs ++ List.replicate n 0).take n

end Sys2Proof.Machine
end

