-- ==== Sys2Proof/Syntax.lean ====
section
/-! DEFINITION. The commands of the part: one constructor per row of spec/opcode_table.json, with the operands the row's
frame or event carries. Request operands are the raw fields of the request frame (R180), so nothing is clamped here. -/

namespace Sys2Proof

/-- The five member ports (section 1.2 of the scope; port numbers in R180). -/
inductive Member where
  | veh | eng | bat | trc | brk
  deriving DecidableEq, Repr

/-- The six ports: the member ports and the service port (R180). -/
inductive Port where
  | veh | eng | bat | trc | brk | svc
  deriving DecidableEq, Repr

/-- The eight claim kinds, in their within-level order (R108). -/
inductive ClaimKind where
  | engProtectStop | keyOffStop | zoneStop | svcStop | lowChargeRun | filterRun | heatRun | haltStop
  deriving DecidableEq, Repr

/-- What ended in a release from reset (R22, R154): the power rising, or the reset line. -/
inductive ResetCause where
  | powerOn | resetLine
  deriving DecidableEq, Repr

/-- The payload of a STATUS frame as received, by the port it came on (R180). `wake` is bit 7 of byte 2. -/
inductive StatusBody where
  /-- VEH: wake flag, door open, park brake applied, P_dem (signed), distance increment. -/
  | veh (wake door park : Bool) (pDem : Word16) (dist : Byte)
  /-- ENG: wake flag, engine state code, P_gen_avail. -/
  | eng (wake : Bool) (state : BitVec 2) (pGen : Word16)
  /-- BAT: wake flag, P_bd, P_bc, P_bmeas (signed), E_bms. -/
  | bat (wake : Bool) (pBd pBc pMeas eBms : Word16)
  /-- TRC: wake flag, P_tm, P_rm. -/
  | trc (wake : Bool) (pTm pRm : Word16)
  /-- BRK: wake flag, wheel-slip control active, F_capF, F_capR, s_b, F_appF, F_appR. -/
  | brk (wake slip : Bool) (capF capR : Word16) (sb : Byte) (appF appR : Word16)
  deriving DecidableEq, Repr

/-- The commands, one constructor per row of the table. -/
inductive Instr where
  /-- STATUS_FRAME: a STATUS frame that passed the check of R1, on the port its payload is of. -/
  | statusFrame (alive : BitVec 4) (body : StatusBody)
  /-- SVC_STATUS_FRAME: a good STATUS frame on SVC. -/
  | svcStatusFrame
  /-- UNKNOWN_REQUEST: a good request frame whose kind code names no request. -/
  | unknownRequest (port : Port) (kind tag : Byte)
  /-- CLAIM(kind, minimum load). -/
  | claim (port : Port) (tag kind : Byte) (load : Word16)
  /-- RELEASE(kind). -/
  | release (port : Port) (tag kind : Byte)
  /-- ZONE_ADD(id, kind, start, length, estimate). -/
  | zoneAdd (port : Port) (tag id kind : Byte) (start : Word32) (length estimate : Word16)
  /-- ZONE_CANCEL(id). -/
  | zoneCancel (port : Port) (tag id : Byte)
  /-- ROUTE_RESET. -/
  | routeReset (port : Port) (tag : Byte)
  /-- RESYNC(port). -/
  | resync (port : Port) (tag target : Byte)
  /-- NOTE(value1, value2). -/
  | note (port : Port) (tag : Byte) (value1 value2 : Word32)
  /-- ACK_NOTICE(kind). -/
  | ackNotice (port : Port) (tag kind : Byte)
  /-- CONFIG_WRITE(parameter, value). -/
  | configWrite (port : Port) (tag param : Byte) (value : Word32)
  /-- CONFIG_READ(parameter). -/
  | configRead (port : Port) (tag param : Byte)
  /-- RING_CONFIG(mode, threshold, enables, four intervals, clear flag). -/
  | ringConfig (port : Port) (tag mode : Byte) (threshold enables slip check start brake : Word16) (clear : Byte)
  /-- DRAIN(count, mode). -/
  | drain (port : Port) (tag : Byte) (count : Word16) (mode : Byte)
  /-- DRAIN_STOP. -/
  | drainStop (port : Port) (tag : Byte)
  /-- RING_ACK(seq). -/
  | ringAck (port : Port) (tag : Byte) (seq : Word16)
  /-- WEAR_READ(item). -/
  | wearRead (port : Port) (tag item : Byte)
  /-- WEAR_RESET(item). -/
  | wearReset (port : Port) (tag item : Byte)
  /-- WEAR_SET(item, count). -/
  | wearSet (port : Port) (tag item : Byte) (count : Word32)
  /-- COUNTER_READ(group, clear flag). -/
  | counterRead (port : Port) (tag group clear : Byte)
  /-- ENGINE_UNLOCK. -/
  | engineUnlock (port : Port) (tag : Byte)
  /-- IGNITION_LINE_CHANGE: the ignition line's new reading, true for ON. -/
  | ignitionLineChange (on : Bool)
  /-- IGNITION_DEBOUNCE_EXPIRY. -/
  | ignitionDebounceExpiry
  /-- DOOR_LINE_CHANGE: the door interlock line's new reading, true for OPEN. -/
  | doorLineChange (isOpen : Bool)
  /-- RESET: power-on, or release of the reset line. -/
  | reset (cause : ResetCause)
  /-- ALLOCATION_CYCLE: expiry of the allocation timer. -/
  | allocationCycle
  /-- WAKE_SLOW: expiry of the wake timer. -/
  | wakeSlow
  /-- DOOR_CLOSED: expiry of the door agreement timer. -/
  | doorClosed
  /-- DOOR_DISAGREE: expiry of the door disagreement timer. -/
  | doorDisagree
  /-- SHUTDOWN_LIMIT: expiry of the shutdown timer. -/
  | shutdownLimit
  /-- SERVICE_PRESENCE_EXPIRY. -/
  | servicePresenceExpiry
  /-- SERVICE_STATUS: expiry of the status timer. -/
  | serviceStatus
  /-- CLAIM_EXPIRED: expiry of the age timer of the claim of this kind. -/
  | claimExpired (kind : ClaimKind)
  /-- CRANK_TIMER_EXPIRY. -/
  | crankTimerExpiry
  /-- RETRY_GAP_EXPIRY. -/
  | retryGapExpiry
  /-- COOLDOWN_EXPIRY. -/
  | cooldownExpiry
  /-- STOP_TIMEOUT: expiry of the stop timer. -/
  | stopTimeout
  /-- OFF_DWELL_EXPIRY. -/
  | offDwellExpiry
  /-- POLICY_CHECK: expiry of the policy check timer. -/
  | policyCheck
  /-- RUN_CLOCK_TICK: 10 ms of the run clock have passed. -/
  | runClockTick
  /-- NV_WRITE_COMPLETE: the cell write in progress has completed. -/
  | nvWriteComplete
  /-- TRANSMISSION_START: the port's link is free and takes the frame at the front. -/
  | transmissionStart (port : Port)
  /-- TRANSMISSION_COMPLETE: the frame in transmission on the port has been sent. -/
  | transmissionComplete (port : Port)
  /-- BAD_FRAME_RECEIVED: a frame on the port failed the check of R1; `kind` is its byte 0. -/
  | badFrameReceived (port : Port) (kind : Byte)
  /-- RESET_ASSERTED: the reset line is asserted, or power is lost. -/
  | resetAsserted
  deriving DecidableEq, Repr

end Sys2Proof
end

