-- ==== Sys2Proof/WellFormed.lean ====
section
/-! DEFINITION. Which commands are well formed: an unknown request's kind code names no request and is not STATUS
(R176), and an age timer exists only for the configurable claim kinds (R115). -/

namespace Sys2Proof

/-- The kind code of a STATUS frame (R180). -/
def statusCode : Byte := 0x01

/-- The kind codes that name a request (R176): 10h to 22h. -/
def namesRequest (kind : Byte) : Bool := 0x10 ≤ kind.toNat && kind.toNat ≤ 0x22

/-- The configurable claim kinds, which alone have an age limit and a configured level (R108, R115). -/
def ClaimKind.configurable : ClaimKind → Bool
  | .engProtectStop | .keyOffStop | .zoneStop => false
  | .svcStop | .lowChargeRun | .filterRun | .heatRun | .haltStop => true

/-- A command that the outside or a timer can give. -/
def Instr.wf : Instr → Bool
  | .unknownRequest _ kind _ => !namesRequest kind && decide (kind ≠ statusCode)
  | .claimExpired kind => kind.configurable
  | _ => true

end Sys2Proof
end

