-- ==== Sys2Proof/Machine/Params.lean ====
section
/-! DEFINITION. The configuration table: the 70 parameters, their ranges and defaults (R181), the corrections at loading
(R182) and at a CONFIG_WRITE (R183), the ring settings (R163), and the fixed durations of section 6 of the scope. -/

namespace Sys2Proof

/-- The place of a configurable claim kind among parameters 25 to 29 and 30 to 34; 0 for the fixed kinds. -/
def ClaimKind.place : ClaimKind → Nat
  | .svcStop => 0 | .lowChargeRun => 1 | .filterRun => 2 | .heatRun => 3 | .haltStop => 4
  | .engProtectStop | .keyOffStop | .zoneStop => 0

namespace Machine

/-- The working copy of the configuration table: the value of parameter n stands at place n - 1 (R181). -/
structure ParamTable where
  vals : List Nat
  deriving DecidableEq, Repr

/-- The working value of parameter number n. -/
def ParamTable.get (t : ParamTable) (n : Nat) : Nat := t.vals.getD (n - 1) 0

/-- The table with parameter number n at a value. -/
def ParamTable.set (t : ParamTable) (n v : Nat) : ParamTable := ⟨t.vals.set (n - 1) v⟩

/-- The defaults of R181 and, for the marks, of R136. -/
def defaultParams : ParamTable :=
  ⟨[300, 2500, 50, 600, 20, 30, 10, 20, 360, 5, 32, 5000, 100, 64, 192, 16, 4, 3, 5, 20, 10, 60, 30, 1]
    ++ [2, 2, 1, 0, 0] ++ [0, 0, 0, 0, 0]
    ++ [400000, 500000, 400000, 500000, 300000, 400000, 250000, 300000, 900000, 1200000]
    ++ [256, 256, 248, 240, 228, 216, 200, 180] ++ [50000]
    ++ [0, 0, 0, 0, 0] ++ [0, 0, 0, 0, 0] ++ [0, 192, 65535, 3, 3, 0, 0]⟩

/-! ## Named parameters (R181) -/

def ParamTable.pCreep (t : ParamTable) : Nat := t.get 1
def ParamTable.pRegmax (t : ParamTable) : Nat := t.get 2
def ParamTable.rUp (t : ParamTable) : Nat := t.get 3
def ParamTable.pQuiet (t : ParamTable) : Nat := t.get 4
/-- Energy parameters are held in MJ and used in J (section 4 of the scope). -/
def joules (mj : Nat) : Nat := mj * 1000000
def ParamTable.eBand (t : ParamTable) : Nat := joules (t.get 5)
def ParamTable.eLift (t : ParamTable) : Nat := joules (t.get 6)
def ParamTable.eStartOff (t : ParamTable) : Nat := joules (t.get 7)
def ParamTable.eFloor (t : ParamTable) : Nat := joules (t.get 8)
def ParamTable.eCap (t : ParamTable) : Nat := joules (t.get 9)
def ParamTable.eDrift (t : ParamTable) : Nat := joules (t.get 10)
def ParamTable.margin (t : ParamTable) : Nat := t.get 11
def ParamTable.lAhead (t : ParamTable) : Nat := t.get 12
def ParamTable.dPre (t : ParamTable) : Nat := t.get 13
def ParamTable.sLo (t : ParamTable) : Nat := t.get 14
def ParamTable.sHi (t : ParamTable) : Nat := t.get 15
def ParamTable.wBias (t : ParamTable) : Nat := t.get 16
/-- The engine times are held in s; timers run in ms. -/
def seconds (s : Nat) : Nat := s * 1000
def ParamTable.tCrank (t : ParamTable) : Nat := seconds (t.get 17)
def ParamTable.maxAttempts (t : ParamTable) : Nat := t.get 18
def ParamTable.tGap (t : ParamTable) : Nat := seconds (t.get 19)
def ParamTable.tCool (t : ParamTable) : Nat := seconds (t.get 20)
def ParamTable.tStop (t : ParamTable) : Nat := seconds (t.get 21)
def ParamTable.tMinrun (t : ParamTable) : Nat := seconds (t.get 22)
def ParamTable.tMinoff (t : ParamTable) : Nat := seconds (t.get 23)
/-- t_assist counts allocation cycles: 100 to the second (R133). -/
def ParamTable.assistCycles (t : ParamTable) : Nat := t.get 24 * 100

/-- The level a claim takes at its arrival from IDLE: 3 for the fixed kinds, the configured level otherwise (R108). -/
def ParamTable.claimLevel (t : ParamTable) (k : ClaimKind) : Nat :=
  if k.configurable then t.get (25 + k.place) else 3

/-- The age limit of a claim in s; 0, no limit, for the fixed kinds (R115). -/
def ParamTable.ageLimit (t : ParamTable) (k : ClaimKind) : Nat :=
  if k.configurable then t.get (30 + k.place) else 0

/-- The warn mark of the item of a code, 1 to 5. -/
def ParamTable.warnMark (t : ParamTable) (item : Nat) : Nat := t.get (33 + 2 * item)
/-- The limit mark of the item of a code, 1 to 5. -/
def ParamTable.limitMark (t : ParamTable) (item : Nat) : Nat := t.get (34 + 2 * item)
/-- Entry i, 0 to 7, of the battery derate table. -/
def ParamTable.derate (t : ParamTable) (i : Nat) : Nat := t.get (45 + i)
def ParamTable.bandWidth (t : ParamTable) : Nat := t.get 53
/-- DIRECT, as the store mode of member port n, 1 to 5. -/
def ParamTable.storeDirect (t : ParamTable) (n : Nat) : Bool := t.get (53 + n) == 1
/-- COMMANDED, as the resync mode of member port n, 1 to 5. -/
def ParamTable.commanded (t : ParamTable) (n : Nat) : Bool := t.get (58 + n) == 1
/-- HOLD, as the ring's storing mode. -/
def ParamTable.hold (t : ParamTable) : Bool := t.get 64 == 1
def ParamTable.threshold (t : ParamTable) : Nat := t.get 65
def ParamTable.enables (t : ParamTable) : Nat := t.get 66

/-! ## Ranges -/

/-- The own range of a parameter, without the bounds that depend on another parameter (R181). -/
def ownRange (n : Nat) : Nat × Nat :=
  if n = 1 then (0, 600) else if n = 2 then (0, 4000) else if n = 3 then (1, 1000) else if n = 4 then (0, 2500)
  else if n = 5 then (1, 100) else if n = 6 ∨ n = 7 then (0, 200) else if n = 8 then (0, 100)
  else if n = 9 then (10, 655) else if n = 10 then (1, 50) else if n = 11 then (0, 128)
  else if n = 12 then (0, 20000) else if n = 13 then (0, 1000) else if n = 14 then (0, 128)
  else if n = 15 then (128, 255) else if n = 16 then (0, 64) else if n = 17 then (1, 10) else if n = 18 then (1, 5)
  else if n = 19 then (1, 60) else if n = 20 then (0, 120) else if n = 21 then (2, 30)
  else if n = 22 ∨ n = 23 then (0, 600) else if n = 24 then (0, 10) else if n ≤ 29 then (0, 3)
  else if n ≤ 34 then (0, 3600) else if n ≤ 44 then (1, max32) else if n ≤ 52 then (128, 256)
  else if n = 53 then (1, 1000000) else if n ≤ 64 then (0, 1) else if n = 65 then (1, 256)
  else if n = 66 then (0, max16) else if n = 67 ∨ n = 68 then (3, max16) else (0, max16)

/-- The range a CONFIG_WRITE of parameter n is clamped to, the dependent bounds judged against the working copy
(R142, R144, R181, R183). -/
def writeRange (t : ParamTable) (n : Nat) : Nat × Nat :=
  let (lo, hi) := ownRange n
  if n = 6 then (t.get 7, hi)
  else if n = 7 then (lo, t.get 6)
  else if n = 8 then (lo, min hi (t.get 9))
  else if n = 9 then (max lo (t.get 8), hi)
  else if 35 ≤ n ∧ n ≤ 44 then
    if n % 2 = 1 then (lo, min hi (t.get (n + 1))) else (max lo (t.get (n - 1)), hi)
  else if 45 ≤ n ∧ n ≤ 52 then
    (if n < 52 then max lo (t.get (n + 1)) else lo, if 45 < n then min hi (t.get (n - 1)) else hi)
  else (lo, hi)

/-- The value a CONFIG_WRITE stores (R183). -/
def writeValue (t : ParamTable) (n v : Nat) : Nat := clampNat v (writeRange t n).1 (writeRange t n).2

/-! ## Ring settings (R163) -/

/-- The six kinds whose enables are forced on, each at the weight of its kind code: RESET 0, LINK 2, ENGINE 6, WEAR 10,
CONFIG 14, NOTE 15 (R154, R163). -/
def forcedEnables : Nat := 2 ^ 0 + 2 ^ 2 + 2 ^ 6 + 2 ^ 10 + 2 ^ 14 + 2 ^ 15

/-- The ring's seven settings in parameter order: storing mode, threshold, enables, four intervals. -/
structure RingSettings where
  mode : Nat
  threshold : Nat
  enables : Nat
  slip : Nat
  check : Nat
  start : Nat
  brake : Nat
  deriving DecidableEq, Repr

/-- The correction of R163: threshold to 1 to 256, the forced enables on, intervals up to their kind's minimum. -/
def RingSettings.corrected (r : RingSettings) : RingSettings :=
  { mode := r.mode, threshold := clampNat r.threshold 1 256, enables := r.enables ||| forcedEnables,
    slip := max r.slip 3, check := max r.check 3, start := r.start, brake := r.brake }

/-- The settings placed in the working copy, at parameters 64 to 70. -/
def ParamTable.setRing (t : ParamTable) (r : RingSettings) : ParamTable :=
  ((((((t.set 64 r.mode).set 65 r.threshold).set 66 r.enables).set 67 r.slip).set 68 r.check).set 69 r.start).set 70
    r.brake

/-- The ring's settings as the working copy holds them. -/
def ParamTable.ringSettings (t : ParamTable) : RingSettings :=
  ⟨t.get 64, t.get 65, t.get 66, t.get 67, t.get 68, t.get 69, t.get 70⟩

/-! ## Loading (R182) -/

/-- Each value clamped to its own range, from parameter number n on. -/
def clampOwn : (n : Nat) → List Nat → List Nat
  | _, [] => []
  | n, v :: vs => clampNat v (ownRange n).1 (ownRange n).2 :: clampOwn (n + 1) vs

/-- A parameter lowered to another where it exceeds it. -/
def ParamTable.lower (t : ParamTable) (n bound : Nat) : ParamTable := t.set n (min (t.get n) (t.get bound))

/-- The corrections of a loaded block, in parameter-number order (R142, R144, R163, R182). -/
def correctLoaded (vals : List Nat) : ParamTable :=
  let t : ParamTable := ⟨clampOwn 1 vals⟩
  let t := (t.lower 7 6).lower 8 9
  let t := [35, 37, 39, 41, 43].foldl (fun t n => t.lower n (n + 1)) t
  let t := [46, 47, 48, 49, 50, 51, 52].foldl (fun t n => t.lower n (n - 1)) t
  t.setRing t.ringSettings.corrected

/-! ## Fixed durations, in ms (section 6 of the scope) -/

def msDebounce : Nat := 100
def msDoorAgree : Nat := 200
def msDoorDisagree : Nat := 2000
def msWake : Nat := 2000
def msShutdown : Nat := 30000
def msAllocation : Nat := 10
def msPresence : Nat := 5000
def msStatus : Nat := 100
def msPolicy : Nat := 100
def msCellWrite : Nat := 5
def msRunClock : Nat := 10

end Machine

end Sys2Proof
end

