-- ==== Sys2Proof/Machine/State.lean ====
section
/-! DEFINITION. The state of the part, block by block, and the queue of commands that wait; the reasons a step can
stop; the state right after reset. Plain data throughout. Values after reset are in the table of each block's chapter
(R18, R19, R22, R61, R107, R135, R152, R171, R179). -/

namespace Sys2Proof.Machine

/-! ## Collections keyed by port, claim kind and wear item -/

/-- One value per member port. -/
structure PerMember (α : Type) where
  veh : α
  eng : α
  bat : α
  trc : α
  brk : α
  deriving DecidableEq, Repr

/-- One value per port. -/
structure PerPort (α : Type) where
  veh : α
  eng : α
  bat : α
  trc : α
  brk : α
  svc : α
  deriving DecidableEq, Repr

/-- One value per claim kind (R108). -/
structure PerClaim (α : Type) where
  engProtectStop : α
  keyOffStop : α
  zoneStop : α
  svcStop : α
  lowChargeRun : α
  filterRun : α
  heatRun : α
  haltStop : α
  deriving DecidableEq, Repr

/-- The five wear items (R136). -/
inductive Item where
  | liningF | liningR | batThru | engStart | engRun
  deriving DecidableEq, Repr

/-- One value per wear item. -/
structure PerItem (α : Type) where
  liningF : α
  liningR : α
  batThru : α
  engStart : α
  engRun : α
  deriving DecidableEq, Repr

/-- A timer: idle, or running with this many ms left. -/
abbrev Timer := Option Nat

/-! ## Mode controller (chapter 2) -/

/-- The six operating modes. -/
inductive Mode where
  | park | waking | limited | run | halt | shutdown
  deriving DecidableEq, Repr

/-- The flags of the most recent accepted VEH STATUS frame (R21). -/
structure VehFlags where
  door : Bool
  park : Bool
  wake : Bool
  deriving DecidableEq, Repr

/-- The mode from which HALT was entered (R29). -/
inductive HaltOrigin where
  | limited | run
  deriving DecidableEq, Repr

/-- The mode controller's state (section 2.1), its raise state of KEY_OFF_STOP (R111) and the XCVR_WAKE output (R23). -/
structure ModeCtl where
  mode : Mode
  ignition : Bool
  debounce : Timer
  flags : Option VehFlags
  doorAgree : Timer
  doorDisagree : Timer
  reported : Bool
  wake : Timer
  dwell : Nat
  shutdown : Timer
  origin : Option HaltOrigin
  keyOffRaised : Bool
  xcvrWake : Bool
  deriving DecidableEq, Repr

/-! ## Member links (chapter 1) -/

/-- The five link states (section 1.4). -/
inductive LinkState where
  | silent | aligning | aligned | suspect | lost
  deriving DecidableEq, Repr

/-- The engine states ENG reports (R180). -/
inductive EngineState where
  | stopped | cranking | running
  deriving DecidableEq, Repr

/-- The values of an accepted STATUS frame, clamped to their ranges (R4). -/
inductive Status where
  | veh (wake door park : Bool) (pDem : Int) (dist : Nat)
  | eng (wake : Bool) (state : EngineState) (pGen : Int)
  | bat (wake : Bool) (pBd pBc pMeas : Int) (eBms : Nat)
  | trc (wake : Bool) (pTm pRm : Int)
  | brk (wake slip : Bool) (capF capR : Int) (sb : Nat) (appF appR : Nat)
  deriving DecidableEq, Repr

/-- An accepted STATUS frame as the alignment store holds it. -/
structure Stored where
  alive : BitVec 4
  status : Status
  deriving DecidableEq, Repr

/-- The seven error counters of a member link, 16-bit and saturating (R17). -/
structure LinkCounters where
  check : Nat
  sequence : Nat
  gaps : Nat
  skips : Nat
  repeats : Nat
  overruns : Nat
  losses : Nat
  deriving DecidableEq, Repr

/-- A member link controller (section 1.1), its transmit queue apart. -/
structure Link where
  state : LinkState
  expected : Option (BitVec 4)
  accepted : Nat
  unread : List Stored
  taken : Option Stored
  missRun : Nat
  recovery : Nat
  freeze : Bool
  cleanRun : Nat
  counters : LinkCounters
  deriving DecidableEq, Repr

/-- The SVC link controller: the presence timer runs while service is present (R19), the status timer (R178) and the
overrun count. -/
structure SvcLink where
  presence : Timer
  status : Timer
  overruns : Nat
  deriving DecidableEq, Repr

/-! ## Power allocator (chapters 3 and 4) -/

/-- The seven limit fields (R42), in hW. -/
structure Limits where
  pBd : Int
  pBc : Int
  pGen : Int
  pTm : Int
  pRm : Int
  capF : Int
  capR : Int
  deriving DecidableEq, Repr

/-- The braking episode record under construction (R76). -/
structure Episode where
  startClock : Word32
  startDist : Nat
  regen : Nat
  friction : Nat
  slipSeen : Bool
  shortfallSeen : Bool
  frozenSeen : Bool
  deriving DecidableEq, Repr

/-- The allocator's own state (section 3.1). -/
structure Allocator where
  timer : Timer
  prev : Limits
  rPrev : Int
  tractionLimited : Bool
  duration : Nat
  zoneLimp : Bool
  shortfall : Bool
  episode : Option Episode
  regenTotal : Nat
  frictionTotal : Nat
  applyCount : Nat
  deriving DecidableEq, Repr

/-! ## Energy account, route and zone queue (chapter 5) -/

/-- The energy account: whether it is ANCHORED, and E_bat in J (section 5.1). -/
structure Account where
  anchored : Bool
  eBat : Nat
  deriving DecidableEq, Repr

/-- The two zone kinds (R91). -/
inductive ZoneKind where
  | emissionFree | quiet
  deriving DecidableEq, Repr

/-- An entry of the zone queue (R91): start and length in m, estimate in 10 kJ. -/
structure Zone where
  id : Nat
  kind : ZoneKind
  start : Nat
  length : Nat
  estimate : Nat
  inside : Bool
  deriving DecidableEq, Repr

/-- The route odometer in cm, the zone queue in its order, the reserve E_res in J and the ZONE_STOP raise state. -/
structure Route where
  dRoute : Nat
  zones : List Zone
  eRes : Nat
  stopRaised : Bool
  deriving DecidableEq, Repr

/-! ## Engine directive arbiter and engine sequencer (chapter 6) -/

/-- Where a claim stands (R108). -/
inductive ClaimState where
  | idle | pending | holding | suspended
  deriving DecidableEq, Repr

/-- An entry of the claim table (R108). -/
structure Claim where
  state : ClaimState
  level : Nat
  load : Nat
  age : Timer
  deriving DecidableEq, Repr

/-- The claim table and the suspension stack, top first. -/
structure Arbiter where
  claims : PerClaim Claim
  stack : List ClaimKind
  deriving DecidableEq, Repr

/-- The sequencer's states (section 6.5). -/
inductive SeqState where
  | off | cranking | running | cooldown | stopping | lockedOut
  deriving DecidableEq, Repr

/-- The engine sequencer (section 6.5). `runTime` counts up in ms while it runs; `crankTime`, the time spent in the
present crank in ms, is the model's own counter for the time R122 and R124 report (log 23). -/
structure Sequencer where
  state : SeqState
  attempts : Nat
  crank : Timer
  gap : Timer
  cool : Timer
  stop : Timer
  runTime : Option Nat
  offDwell : Timer
  policy : Timer
  engine : EngineState
  crankTime : Nat
  deriving DecidableEq, Repr

/-! ## Wear table and non-volatile store (chapter 7) -/

/-- The states of a wear item (R139, R141). -/
inductive WearState where
  | normal | warned | limit | invalid
  deriving DecidableEq, Repr

/-- The wear request whose answer waits for the write of the item's cell (R147): which of the two, and its tag. -/
structure WearAwait where
  isSet : Bool
  tag : Byte
  deriving DecidableEq, Repr

/-- A wear item of the working table (R136); its marks are parameters. -/
structure WearItem where
  count : Nat
  rem : Nat
  state : WearState
  pending : Bool
  awaiting : Option WearAwait
  deriving DecidableEq, Repr

/-- A wear cell of the non-volatile store: item code, count and CRC-8 (R148). -/
structure WearCell where
  code : Byte
  count : Word32
  crc : Byte
  deriving DecidableEq, Repr

/-- The configuration block of the non-volatile store: every parameter's value and a CRC-8 (R148). -/
structure ConfigBlock where
  vals : List Nat
  crc : Byte
  deriving DecidableEq, Repr

/-- The codes an ANSWER carries (R177). -/
inductive AnswerCode where
  | done | clamped | overwrote | passed | notAligned | refusedMode | refusedBusy | refusedFull | refusedPort
  | notFound | notHeld | unknown
  deriving DecidableEq, Repr

/-- The request whose answer waits for the write of the configuration block (R165, R184). -/
inductive BlockAwait where
  | configWrite (tag : Byte) (param value : Nat) (code : AnswerCode)
  | ringConfig (tag : Byte) (settings : RingSettings) (clear : Bool) (code : AnswerCode)
  deriving DecidableEq, Repr

/-- What the write engine is writing: the cell and the contents captured at the start (R149). -/
inductive NvWrite where
  | wear (item : Item) (count : Nat)
  | block (vals : List Nat)
  deriving DecidableEq, Repr

/-- The non-volatile store and its write engine. `left` runs while a cell is being written. `blockFresh`, the model's own
mark, is set while the block is being written and that write started at the taking of a CONFIG_WRITE in the present ms
(R184; log 31). -/
structure Nv where
  cells : PerItem WearCell
  block : ConfigBlock
  writing : Option NvWrite
  left : Timer
  blockPending : Bool
  blockAwaiting : Option BlockAwait
  blockFresh : Bool
  deriving DecidableEq, Repr

/-! ## Event ring (chapter 8) -/

/-- The sixteen kinds of occurrence (R154). -/
inductive RingKind where
  | reset | mode | link | slip | checkError | claim | engine | engineStart | zone | account | wear | brakeApply
  | shortfall | limited | config | note
  deriving DecidableEq, Repr

/-- A stored record (R153). A field that is absent is `none`: its presence flag is clear. No kind leaves the subject absent
(log 35). -/
structure Record where
  seq : Word16
  kind : RingKind
  subkind : Nat
  clock : Word32
  dist : Nat
  subject : Option Nat
  value1 : Option Int
  value2 : Option Int
  deriving DecidableEq, Repr

/-- The drain state (R166). -/
inductive DrainState where
  | idle | oneShot | continuous
  deriving DecidableEq, Repr

/-- The event ring; its settings are parameters 64 to 70. Positions are exact (chapter 8, introduction). -/
structure Ring where
  slots : List (Option Record)
  head : Nat
  tail : Nat
  cursor : Nat
  seq : Word16
  missed : Nat
  sampSlip : Nat
  sampCheck : Nat
  sampStart : Nat
  sampBrake : Nat
  drain : DrainState
  remaining : Nat
  reload : Nat
  tag : Byte
  sent : Nat
  clamped : Bool
  lastSeq : Word16
  deriving DecidableEq, Repr

/-! ## Notices, frames and transmit queues (chapter 9) -/

/-- A port's notice set: the pulse kinds and the held kinds present, one bit a code, and the subject sets of LINK_LOST
(bit n - 1 for port number n) and of the three wear kinds (bit c - 1 for item code c), laid out as in a GRANT (R180). -/
structure NoticeSet where
  pulses : Word16
  held : Byte
  lostPorts : Byte
  warnItems : Byte
  limitItems : Byte
  invalidItems : Byte
  deriving DecidableEq, Repr

/-- The command to the engine controller (R119). -/
inductive EngineCommand where
  | none | start | stop
  deriving DecidableEq, Repr

/-- The zone state of the VEH GRANT (R58). -/
inductive ZoneView where
  | none | quiet | emissionFree
  deriving DecidableEq, Repr

/-- The port part of a GRANT (R58 to R60). -/
inductive GrantPart where
  | veh (total : Int) (links : PerMember LinkState) (zone : ZoneView) (eBat eRes : Nat) (wear : PerItem WearState)
  | eng (command : EngineCommand) (pG : Int) (minLoadUnmet : Bool) (holder : Nat)
  | bat (pB : Int)
  | trc (setpoint : Int)
  | brk (fF fR r share : Int)
  deriving DecidableEq, Repr

/-- A value of an ANSWER's body: its width in bytes and the value (R177, R180). -/
structure Field where
  width : Nat
  value : Nat
  deriving DecidableEq, Repr

/-- A frame in a transmit queue. Notices, alive counter and CRC are filled in at transmission (R175). -/
inductive TxFrame where
  | grant (mode : Mode) (link : LinkState) (part : GrantPart)
  | answer (kind tag : Byte) (code : AnswerCode) (body : List Field)
  | ringRecord (slot : Nat) (record : Record)
  | serviceStatus
  deriving DecidableEq, Repr

/-- A port's transmit queue, front first; the 32 bytes of the frame in transmission, which stands at the front; the
transmit alive counter (R175). -/
structure TxQueue where
  frames : List TxFrame
  sending : Option (List Byte)
  alive : BitVec 4
  deriving DecidableEq, Repr

/-! ## The part -/

/-- The whole part. `inReset` while it is held in reset (R22); the two lines as they read; `clockLeft`, the ms left of
the run clock's present period; `free`, how many free values have been used (log 27). -/
structure Device where
  inReset : Bool
  ignLine : Bool
  doorLine : Bool
  mode : ModeCtl
  links : PerMember Link
  svc : SvcLink
  alloc : Allocator
  account : Account
  route : Route
  arbiter : Arbiter
  seq : Sequencer
  wear : PerItem WearItem
  nv : Nv
  params : ParamTable
  ring : Ring
  runClock : Word32
  clockLeft : Nat
  notices : PerPort NoticeSet
  tx : PerPort TxQueue
  free : Nat
  deriving DecidableEq, Repr

/-- The part and the commands that wait for it, first in first out. -/
structure State where
  pending : List Instr
  dev : Device
  deriving DecidableEq, Repr

/-- Why a step faults. The spec gives the part no fault: every command is carried out, answered, discarded or without
effect, so no constructor exists and no step can fault. -/
inductive Fault where
  deriving DecidableEq, Repr

/-- Why a step is refused. -/
inductive Refusal where
  /-- Raised by `exec`'s arm of a command that has no meaning yet; no arm raises it. Safe: the machine stops. -/
  | notModelled (mnemonic : String)
  deriving DecidableEq, Repr

/-! ## Values after reset -/

/-- A member link after reset (R18). -/
def Link.cleared : Link :=
  { state := .silent, expected := none, accepted := 0, unread := [], taken := none, missRun := 0, recovery := 0,
    freeze := false, cleanRun := 0, counters := ⟨0, 0, 0, 0, 0, 0, 0⟩ }

/-- An IDLE claim after reset (R135); its level is the model's choice (log 19). -/
def Claim.cleared : Claim := ⟨.idle, 0, 0, none⟩

/-- A wear item before its cell is loaded (R151, R152). -/
def WearItem.cleared : WearItem := ⟨0, 0, .normal, false, none⟩

/-- An empty notice set (R172). -/
def NoticeSet.cleared : NoticeSet := ⟨0, 0, 0, 0, 0, 0⟩

/-- A transmit queue after reset (R179). -/
def TxQueue.cleared : TxQueue := ⟨[], none, 0⟩

/-- The mode controller after reset with the ignition line at a reading (R22). -/
def ModeCtl.cleared (ignition : Bool) : ModeCtl :=
  { mode := .park, ignition := ignition, debounce := none, flags := none, doorAgree := none, doorDisagree := none,
    reported := false, wake := none, dwell := 0, shutdown := none, origin := none, keyOffRaised := false,
    xcvrWake := false }

/-- The sequencer after reset (R135). -/
def Sequencer.cleared : Sequencer :=
  { state := .off, attempts := 0, crank := none, gap := none, cool := none, stop := none, runTime := none,
    offDwell := none, policy := none, engine := .stopped, crankTime := 0 }

/-- The allocator after reset (R61). -/
def Allocator.cleared : Allocator :=
  { timer := none, prev := ⟨0, 0, 0, 0, 0, 0, 0⟩, rPrev := 0, tractionLimited := false, duration := 0,
    zoneLimp := false, shortfall := false, episode := none, regenTotal := 0, frictionTotal := 0, applyCount := 0 }

/-- The ring after reset, its sampling counters at the intervals of a configuration (R171); the drain tag 0, which no rule
gives, is the model's choice, as are `clamped` and `lastSeq` (log 29). -/
def Ring.cleared (t : ParamTable) : Ring :=
  { slots := List.replicate 256 none, head := 0, tail := 0, cursor := 0, seq := 0, missed := 0,
    sampSlip := t.get 67, sampCheck := t.get 68, sampStart := t.get 69, sampBrake := t.get 70,
    drain := .idle, remaining := 0, reload := 0, tag := 0, sent := 0, clamped := false, lastSeq := 0 }

/-- The bytes of a wear cell that its CRC-8 covers; the layout is the model's (log 16). -/
def WearCell.bytes (code : Byte) (count : Word32) : List Byte := code :: leBytes 4 count.toNat

/-- A wear cell as a completed write leaves it (R148, R150). -/
def WearCell.written (code : Byte) (count : Nat) : WearCell :=
  let c := BitVec.ofNat 32 count
  ⟨code, c, crc8 (WearCell.bytes code c)⟩

/-- The bytes of the configuration block that its CRC-8 covers: four to a parameter, in number order; the layout is the
model's (log 16). -/
def ConfigBlock.bytes (vals : List Nat) : List Byte := vals.flatMap (leBytes 4)

/-- The configuration block as a completed write leaves it (R148, R150). -/
def ConfigBlock.written (vals : List Nat) : ConfigBlock := ⟨vals, crc8 (ConfigBlock.bytes vals)⟩

/-- The write engine idle over a store (R152). -/
def Nv.idleOver (cells : PerItem WearCell) (block : ConfigBlock) : Nv :=
  { cells := cells, block := block, writing := none, left := none, blockPending := false, blockAwaiting := none,
    blockFresh := false }

/-- The store as a part leaves production: every wear cell with count 0, the block with the defaults (R148). -/
def Nv.production : Nv :=
  Nv.idleOver
    ⟨WearCell.written 1 0, WearCell.written 2 0, WearCell.written 3 0, WearCell.written 4 0, WearCell.written 5 0⟩
    (ConfigBlock.written defaultParams.vals)

/-- Every block in its reset state over a given working configuration, ahead of anything a reset loads, raises or
records. The lines, the store and the count of free values are kept from before. -/
def Device.blank (ignLine doorLine : Bool) (nv : Nv) (params : ParamTable) (free : Nat) : Device :=
  { inReset := false, ignLine := ignLine, doorLine := doorLine, mode := ModeCtl.cleared ignLine,
    links := ⟨.cleared, .cleared, .cleared, .cleared, .cleared⟩,
    svc := ⟨none, none, 0⟩, alloc := .cleared, account := ⟨false, 0⟩, route := ⟨0, [], params.eFloor, false⟩,
    arbiter := ⟨⟨.cleared, .cleared, .cleared, .cleared, .cleared, .cleared, .cleared, .cleared⟩, []⟩,
    seq := .cleared, wear := ⟨.cleared, .cleared, .cleared, .cleared, .cleared⟩,
    nv := nv, params := params, ring := Ring.cleared params, runClock := 0, clockLeft := msRunClock,
    notices := ⟨.cleared, .cleared, .cleared, .cleared, .cleared, .cleared⟩,
    tx := ⟨.cleared, .cleared, .cleared, .cleared, .cleared, .cleared⟩, free := free }

/-- The RESET record of a power-on reset: sequence number 0, run clock 0, D_route_m 0, subject 1 (R154, R171). -/
def powerOnRecord : Record := ⟨0, .reset, 0, 0, 0, some 1, none, none⟩

/-- The machine right after a power-on reset of a part as it leaves production, the ignition line OFF and the door line
CLOSED (log 5): every block in its reset state, the RESET record stored first (R171), no command waiting. -/
def State.reset : State :=
  let d := Device.blank false false Nv.production defaultParams 0
  { pending := [],
    dev := { d with ring := { d.ring with slots := d.ring.slots.set 0 (some powerOnRecord), head := 1, seq := 1 } } }

end Sys2Proof.Machine
end

