-- ==== Sys2Proof/Machine/Ops.lean ====
section
/-! DEFINITION. Accessors, codes and the computed views of the state: what other blocks read of a block without a copy
of their own (R39, R106). -/

namespace Sys2Proof

/-! ## Ports and claim kinds -/

/-- The member ports in port-number order. -/
def Member.all : List Member := [.veh, .eng, .bat, .trc, .brk]

/-- A member port as a port. -/
def Member.port : Member → Port
  | .veh => .veh | .eng => .eng | .bat => .bat | .trc => .trc | .brk => .brk

/-- The port numbers of R180. -/
def Port.number : Port → Nat
  | .veh => 1 | .eng => 2 | .bat => 3 | .trc => 4 | .brk => 5 | .svc => 6

/-- A member port's number. -/
def Member.number (m : Member) : Nat := m.port.number

/-- The member of a port; none for SVC. -/
def Port.member : Port → Option Member
  | .veh => some .veh | .eng => some .eng | .bat => some .bat | .trc => some .trc | .brk => some .brk | .svc => none

/-- The member port of a number, 1 to 5 (R13). -/
def Member.ofNumber (n : Nat) : Option Member := Member.all.find? fun m => m.number = n

/-- The port a STATUS payload is of. -/
def StatusBody.member : StatusBody → Member
  | .veh .. => .veh | .eng .. => .eng | .bat .. => .bat | .trc .. => .trc | .brk .. => .brk

/-- The wake flag of a STATUS payload. -/
def StatusBody.wake : StatusBody → Bool
  | .veh w .. => w | .eng w .. => w | .bat w .. => w | .trc w .. => w | .brk w .. => w

/-- The claim kinds in table order (R108). -/
def ClaimKind.all : List ClaimKind :=
  [.engProtectStop, .keyOffStop, .zoneStop, .svcStop, .lowChargeRun, .filterRun, .heatRun, .haltStop]

/-- The claim kind codes of R108. -/
def ClaimKind.code : ClaimKind → Nat
  | .engProtectStop => 1 | .keyOffStop => 2 | .zoneStop => 3 | .svcStop => 4
  | .lowChargeRun => 5 | .filterRun => 6 | .heatRun => 7 | .haltStop => 8

/-- The claim kind of a code, 1 to 8. -/
def ClaimKind.ofCode (n : Nat) : Option ClaimKind := ClaimKind.all.find? fun k => k.code = n

/-- The port that owns a kind; none for the internal kinds (R108). -/
def ClaimKind.owner : ClaimKind → Option Port
  | .engProtectStop | .filterRun => some .eng
  | .keyOffStop | .zoneStop => none
  | .svcStop => some .svc
  | .lowChargeRun => some .bat
  | .heatRun | .haltStop => some .veh

/-- Whether a kind's direction is RUN (R108). -/
def ClaimKind.runs : ClaimKind → Bool
  | .lowChargeRun | .filterRun | .heatRun => true
  | .engProtectStop | .keyOffStop | .zoneStop | .svcStop | .haltStop => false

/-- The three protective STOP kinds, which stop the engine without cooldown (R125). -/
def ClaimKind.protective : ClaimKind → Bool
  | .engProtectStop | .keyOffStop | .zoneStop => true
  | .svcStop | .lowChargeRun | .filterRun | .heatRun | .haltStop => false

namespace Machine

/-! ## Collections -/

def PerMember.get {α : Type} (x : PerMember α) : Member → α
  | .veh => x.veh | .eng => x.eng | .bat => x.bat | .trc => x.trc | .brk => x.brk

def PerMember.set {α : Type} (x : PerMember α) (m : Member) (v : α) : PerMember α :=
  match m with
  | .veh => { x with veh := v }
  | .eng => { x with eng := v }
  | .bat => { x with bat := v }
  | .trc => { x with trc := v }
  | .brk => { x with brk := v }

def PerMember.map {α β : Type} (f : α → β) (x : PerMember α) : PerMember β :=
  ⟨f x.veh, f x.eng, f x.bat, f x.trc, f x.brk⟩

def PerPort.get {α : Type} (x : PerPort α) : Port → α
  | .veh => x.veh | .eng => x.eng | .bat => x.bat | .trc => x.trc | .brk => x.brk | .svc => x.svc

def PerPort.set {α : Type} (x : PerPort α) (p : Port) (v : α) : PerPort α :=
  match p with
  | .veh => { x with veh := v }
  | .eng => { x with eng := v }
  | .bat => { x with bat := v }
  | .trc => { x with trc := v }
  | .brk => { x with brk := v }
  | .svc => { x with svc := v }

def PerPort.map {α β : Type} (f : α → β) (x : PerPort α) : PerPort β :=
  ⟨f x.veh, f x.eng, f x.bat, f x.trc, f x.brk, f x.svc⟩

/-- A change to each member port's value, SVC's left as it is. -/
def PerPort.mapMembers {α : Type} (f : α → α) (x : PerPort α) : PerPort α :=
  ⟨f x.veh, f x.eng, f x.bat, f x.trc, f x.brk, x.svc⟩

def PerClaim.get {α : Type} (x : PerClaim α) : ClaimKind → α
  | .engProtectStop => x.engProtectStop | .keyOffStop => x.keyOffStop | .zoneStop => x.zoneStop
  | .svcStop => x.svcStop | .lowChargeRun => x.lowChargeRun | .filterRun => x.filterRun
  | .heatRun => x.heatRun | .haltStop => x.haltStop

def PerClaim.set {α : Type} (x : PerClaim α) (k : ClaimKind) (v : α) : PerClaim α :=
  match k with
  | .engProtectStop => { x with engProtectStop := v }
  | .keyOffStop => { x with keyOffStop := v }
  | .zoneStop => { x with zoneStop := v }
  | .svcStop => { x with svcStop := v }
  | .lowChargeRun => { x with lowChargeRun := v }
  | .filterRun => { x with filterRun := v }
  | .heatRun => { x with heatRun := v }
  | .haltStop => { x with haltStop := v }

def PerClaim.map {α β : Type} (f : α → β) (x : PerClaim α) : PerClaim β :=
  ⟨f x.engProtectStop, f x.keyOffStop, f x.zoneStop, f x.svcStop, f x.lowChargeRun, f x.filterRun, f x.heatRun,
    f x.haltStop⟩

def PerItem.get {α : Type} (x : PerItem α) : Item → α
  | .liningF => x.liningF | .liningR => x.liningR | .batThru => x.batThru | .engStart => x.engStart
  | .engRun => x.engRun

def PerItem.set {α : Type} (x : PerItem α) (i : Item) (v : α) : PerItem α :=
  match i with
  | .liningF => { x with liningF := v }
  | .liningR => { x with liningR := v }
  | .batThru => { x with batThru := v }
  | .engStart => { x with engStart := v }
  | .engRun => { x with engRun := v }

def PerItem.map {α β : Type} (f : α → β) (x : PerItem α) : PerItem β :=
  ⟨f x.liningF, f x.liningR, f x.batThru, f x.engStart, f x.engRun⟩

/-! ## Codes -/

/-- The mode codes of R154 and R180. -/
def Mode.code : Mode → Nat
  | .park => 0 | .waking => 1 | .limited => 2 | .run => 3 | .halt => 4 | .shutdown => 5

/-- The link state codes of R154 and R180. -/
def LinkState.code : LinkState → Nat
  | .silent => 0 | .aligning => 1 | .aligned => 2 | .suspect => 3 | .lost => 4

/-- A link whose taken frame is used: ALIGNED or SUSPECT (R16, R41). -/
def LinkState.usable : LinkState → Bool
  | .aligned | .suspect => true
  | .silent | .aligning | .lost => false

/-- The engine state codes of R180. -/
def EngineState.code : EngineState → Nat
  | .stopped => 0 | .cranking => 1 | .running => 2

/-- The engine state of a received code: 3 is read as STOPPED (R180). -/
def EngineState.ofCode (c : BitVec 2) : EngineState :=
  if c = 1 then .cranking else if c = 2 then .running else .stopped

/-- The claim state codes of R108. -/
def ClaimState.code : ClaimState → Nat
  | .idle => 0 | .pending => 1 | .holding => 2 | .suspended => 3

/-- The sequencer state codes of section 6.5. -/
def SeqState.code : SeqState → Nat
  | .off => 0 | .cranking => 1 | .running => 2 | .cooldown => 3 | .stopping => 4 | .lockedOut => 5

/-- The wear state codes of section 7.1. -/
def WearState.code : WearState → Nat
  | .normal => 0 | .warned => 1 | .limit => 2 | .invalid => 3

/-- A worn item: WARNED, LIMIT or INVALID (R70, R143). -/
def WearState.worn : WearState → Bool
  | .normal => false
  | .warned | .limit | .invalid => true

/-- The answer codes of R177. -/
def AnswerCode.code : AnswerCode → Nat
  | .done => 0 | .clamped => 1 | .overwrote => 2 | .passed => 3 | .notAligned => 4 | .refusedMode => 5
  | .refusedBusy => 6 | .refusedFull => 7 | .refusedPort => 8 | .notFound => 9 | .notHeld => 10 | .unknown => 11

/-- The drain state codes of R180. -/
def DrainState.code : DrainState → Nat
  | .idle => 0 | .oneShot => 1 | .continuous => 2

/-- The engine command codes of R180. -/
def EngineCommand.code : EngineCommand → Nat
  | .none => 0 | .start => 1 | .stop => 2

/-- The zone state codes of R180. -/
def ZoneView.code : ZoneView → Nat
  | .none => 0 | .quiet => 1 | .emissionFree => 2

/-- The wear items in code order. -/
def Item.all : List Item := [.liningF, .liningR, .batThru, .engStart, .engRun]

/-- The item codes of R136. -/
def Item.code : Item → Nat
  | .liningF => 1 | .liningR => 2 | .batThru => 3 | .engStart => 4 | .engRun => 5

/-- The item of a code, 1 to 5 (R145). -/
def Item.ofCode (n : Nat) : Option Item := Item.all.find? fun i => i.code = n

/-- The quantum of an item (R136). -/
def Item.quantum : Item → Nat
  | .liningF | .liningR => 1000000
  | .batThru => 10000000
  | .engStart => 1
  | .engRun => 6000

/-- The member notified of an item's crossings (R136). -/
def Item.member : Item → Port
  | .liningF | .liningR => .brk
  | .batThru => .bat
  | .engStart | .engRun => .eng

/-! ## Views of the state -/

/-- D_route_m, the route distance in m (R89). -/
def Device.dRouteM (d : Device) : Nat := d.route.dRoute / 100

/-- The link controller of a member port. -/
def Device.link (d : Device) (m : Member) : Link := d.links.get m

/-- The state with a member link controller at a value. -/
def Device.setLink (d : Device) (m : Member) (l : Link) : Device := { d with links := d.links.set m l }

/-- The transmit queue of a port. -/
def Device.txq (d : Device) (p : Port) : TxQueue := d.tx.get p

/-- The state with a port's transmit queue at a value. -/
def Device.setTxq (d : Device) (p : Port) (q : TxQueue) : Device := { d with tx := d.tx.set p q }

/-- The claim table's entry of a kind. -/
def Device.claim (d : Device) (k : ClaimKind) : Claim := d.arbiter.claims.get k

/-- The state with a claim's entry at a value. -/
def Device.setClaim (d : Device) (k : ClaimKind) (c : Claim) : Device :=
  { d with arbiter := { d.arbiter with claims := d.arbiter.claims.set k c } }

/-- The state with the sequencer at a value. -/
def Device.setSeq (d : Device) (q : Sequencer) : Device := { d with seq := q }

/-- The state with the mode controller at a value. -/
def Device.setMode (d : Device) (m : ModeCtl) : Device := { d with mode := m }

/-- Whether a member link is ALIGNED or SUSPECT. -/
def Device.usable (d : Device) (m : Member) : Bool := (d.link m).state.usable

/-- The effective door flag (R21), true for OPEN. With a usable link and no flags, which no run reaches, it is the line
reading (log 19). -/
def Device.effDoor (d : Device) : Bool :=
  if d.usable .veh then (match d.mode.flags with | some f => f.door | none => d.doorLine) else d.doorLine

/-- The effective park brake flag (R21), true for APPLIED (log 19 as above). -/
def Device.effPark (d : Device) : Bool :=
  if d.usable .veh then (match d.mode.flags with | some f => f.park | none => true) else true

/-- The holder: the kind whose claim is HOLDING (R110, R117). -/
def Arbiter.holder (a : Arbiter) : Option ClaimKind :=
  ClaimKind.all.find? fun k => (a.claims.get k).state = .holding

/-- The engine directive (R117): `stop` and `run` carry the holder. -/
inductive Directive where
  | policy
  | run (holder : ClaimKind)
  | stop (holder : ClaimKind)
  deriving DecidableEq, Repr

/-- The directive the holder yields (R117). -/
def Arbiter.directive (a : Arbiter) : Directive :=
  match a.holder with
  | none => .policy
  | some k => if k.runs then .run k else .stop k

/-- The holder's kind code, 0 for none (R59). -/
def Arbiter.holderCode (a : Arbiter) : Nat :=
  match a.holder with
  | none => 0
  | some k => k.code

/-- The command the sequencer presents (R119). -/
def Sequencer.command (q : Sequencer) : EngineCommand :=
  match q.state with
  | .cranking => .start
  | .stopping => .stop
  | .off | .running | .cooldown | .lockedOut => .none

/-- An entry of a kind that is INSIDE stands in the queue. -/
def insideOf (kind : ZoneKind) (zs : List Zone) : Bool := zs.any fun z => decide (z.kind = kind) && z.inside

/-- The first INSIDE EMISSION_FREE entry in queue order (R48). -/
def firstInside (zs : List Zone) : Option Zone := zs.find? fun z => decide (z.kind = .emissionFree) && z.inside

/-- The ZONE_STOP condition (R104). -/
def stopCondition (t : ParamTable) (dM : Nat) (zs : List Zone) : Bool :=
  zs.any fun z => decide (z.kind = .emissionFree) && (z.inside || decide (z.start ≤ dM + t.dPre))

/-- The derate factor k_bw (R144). -/
def kBw (t : ParamTable) (item : WearItem) : Nat :=
  if item.state = .invalid then t.derate 7 else t.derate (min (item.count / t.bandWidth) 7)

/-- NV busy: a cell is being written, or any cell or the block is pending (R150, R178). -/
def Device.nvBusy (d : Device) : Bool :=
  d.nv.writing.isSome || d.nv.blockPending || Item.all.any fun i => (d.wear.get i).pending

/-- The unread count (chapter 8, introduction). -/
def Ring.unread (g : Ring) : Nat := g.head - g.tail

/-- A command has no effect while the part is held in reset: it receives no frames, sends none and runs no timer
(R22). -/
def Device.live (d : Device) (f : Device → Device) : Device := if d.inReset then d else f d

/-- The outcome of a command: every command is carried out, so the outcome is a next state, in which the part has
changed and the queue has not. -/
def State.act (s : State) (f : Device → Device) : Host.Outcome State Fault Refusal :=
  .next { s with dev := f s.dev }

end Machine

end Sys2Proof
end

