-- ==== Sys2Proof/Machine/Flags.lean ====
section
/-! DEFINITION. The notice sets: pulse and held notices, one set per port (section 9.1, R172 to R174). -/

namespace Sys2Proof.Machine

/-- The pulse kinds (section 9.1). -/
inductive Pulse where
  | modeChanged | zoneEntered | zoneLeft | zoneLimp | tractionLimited | brakeShortfall | claimExpired | drift
  | doorDisagree
  deriving DecidableEq, Repr

/-- The held kinds (section 9.1). -/
inductive HeldKind where
  | linkLost | wearWarn | wearLimit | wearInvalid | startLockout | stopTimeout | configDefaulted | ringFill
  deriving DecidableEq, Repr

/-- The pulse codes of section 9.1. -/
def Pulse.code : Pulse → Nat
  | .modeChanged => 0 | .zoneEntered => 1 | .zoneLeft => 2 | .zoneLimp => 3 | .tractionLimited => 4
  | .brakeShortfall => 5 | .claimExpired => 6 | .drift => 7 | .doorDisagree => 8

/-- The held codes of section 9.1. -/
def HeldKind.code : HeldKind → Nat
  | .linkLost => 0 | .wearWarn => 1 | .wearLimit => 2 | .wearInvalid => 3 | .startLockout => 4 | .stopTimeout => 5
  | .configDefaulted => 6 | .ringFill => 7

/-- The bit of a pulse kind. -/
def Pulse.bit (k : Pulse) : Word16 := 1 <<< k.code

/-- The bit of a held kind. -/
def HeldKind.bit (k : HeldKind) : Byte := 1 <<< k.code

/-- The bit of a subject: n - 1 for port number n, c - 1 for item code c (R180). -/
def subjectBit (n : Nat) : Byte := 1 <<< (n - 1)

/-- Whether a pulse kind is present. -/
def NoticeSet.hasPulse (n : NoticeSet) (k : Pulse) : Bool := n.pulses.getLsbD k.code

/-- Whether a held kind is present. -/
def NoticeSet.hasHeld (n : NoticeSet) (k : HeldKind) : Bool := n.held.getLsbD k.code

/-- A raise of a pulse kind: present once (R172). -/
def NoticeSet.addPulse (n : NoticeSet) (k : Pulse) : NoticeSet := { n with pulses := n.pulses ||| k.bit }

/-- A raise of a held kind, its subjects merged into the kind's set (R172). -/
def NoticeSet.addHeld (n : NoticeSet) (k : HeldKind) (subjects : Byte) : NoticeSet :=
  let n := { n with held := n.held ||| k.bit }
  match k with
  | .linkLost => { n with lostPorts := n.lostPorts ||| subjects }
  | .wearWarn => { n with warnItems := n.warnItems ||| subjects }
  | .wearLimit => { n with limitItems := n.limitItems ||| subjects }
  | .wearInvalid => { n with invalidItems := n.invalidItems ||| subjects }
  | .startLockout | .stopTimeout | .configDefaulted | .ringFill => n

/-- A held kind leaves its set with its whole subject set (R172, R174); `code` is 0 to 7. -/
def NoticeSet.dropHeld (n : NoticeSet) (code : Nat) : NoticeSet :=
  let n := { n with held := n.held &&& ~~~(1 <<< code : Byte) }
  if code = 0 then { n with lostPorts := 0 }
  else if code = 1 then { n with warnItems := 0 }
  else if code = 2 then { n with limitItems := 0 }
  else if code = 3 then { n with invalidItems := 0 }
  else n

/-- Every pulse leaves the set: at the start of a transmission that copied it (R173), at PARK entry (R36). -/
def NoticeSet.dropPulses (n : NoticeSet) : NoticeSet := { n with pulses := 0 }

/-- The state with the notice sets at a value. -/
def Device.setNotices (d : Device) (n : PerPort NoticeSet) : Device := { d with notices := n }

/-- A pulse raised in a port's set. -/
def Device.raisePulse (d : Device) (p : Port) (k : Pulse) : Device :=
  d.setNotices (d.notices.set p ((d.notices.get p).addPulse k))

/-- A held notice raised in a port's set, with subjects. -/
def Device.raiseHeld (d : Device) (p : Port) (k : HeldKind) (subjects : Byte) : Device :=
  d.setNotices (d.notices.set p ((d.notices.get p).addHeld k subjects))

/-- MODE_CHANGED in the sets of all five member ports (R24). -/
def Device.raiseModeChanged (d : Device) : Device :=
  d.setNotices (d.notices.mapMembers fun n => n.addPulse .modeChanged)

end Sys2Proof.Machine
end

