-- ==== Sys2Proof/Machine/Operands.lean ====
section
/-! DEFINITION. Operand forms: the clamping of received STATUS values (R4, section 6 of the scope), the coded parameters
of requests (R180), and which port may send which request (R176). -/

namespace Sys2Proof.Machine

/-- A power field of a STATUS frame: signed 16-bit, clamped to 0 to a top (R180). -/
def clampPower (x : Word16) (top : Int) : Int := clampInt x.toInt 0 top

/-- The clamped values of a received STATUS payload (R4). -/
def clampStatus : StatusBody → Status
  | .veh w door park pDem dist => .veh w door park (clampInt pDem.toInt (-6000) 3000) dist.toNat
  | .eng w state pGen => .eng w (EngineState.ofCode state) (clampPower pGen 2500)
  | .bat w pBd pBc pMeas eBms => .bat w (clampPower pBd 4000) (clampPower pBc 4000) pMeas.toInt eBms.toNat
  | .trc w pTm pRm => .trc w (clampPower pTm 3500) (clampPower pRm 4000)
  | .brk w slip capF capR sb appF appR =>
    .brk w slip (clampPower capF 4000) (clampPower capR 4000) sb.toNat appF.toNat appR.toNat

/-- The kind of ZONE_ADD: 1 QUIET, 2 EMISSION_FREE (R180). -/
def zoneKindOf (b : Byte) : Option ZoneKind :=
  if b = 1 then some .quiet else if b = 2 then some .emissionFree else none

/-- The mode of DRAIN: 1 ONE_SHOT, 2 CONTINUOUS (R180). -/
def drainModeOf (b : Byte) : Option DrainState :=
  if b = 1 then some .oneShot else if b = 2 then some .continuous else none

/-- The mode of RING_CONFIG: 0 WRAP, 1 HOLD (R180). -/
def ringModeOf (b : Byte) : Option Nat := if b = 0 then some 0 else if b = 1 then some 1 else none

/-- A clear flag: 0 for no clear, any other value for clear (R180). -/
def clearOf (b : Byte) : Bool := decide (b ≠ 0)

/-- The request kind codes of R176. -/
def codeClaim : Byte := 0x10
def codeRelease : Byte := 0x11
def codeZoneAdd : Byte := 0x12
def codeZoneCancel : Byte := 0x13
def codeRouteReset : Byte := 0x14
def codeResync : Byte := 0x15
def codeNote : Byte := 0x16
def codeAckNotice : Byte := 0x17
def codeConfigWrite : Byte := 0x18
def codeConfigRead : Byte := 0x19
def codeRingConfig : Byte := 0x1A
def codeDrain : Byte := 0x1B
def codeDrainStop : Byte := 0x1C
def codeRingAck : Byte := 0x1D
def codeWearRead : Byte := 0x1E
def codeWearReset : Byte := 0x1F
def codeWearSet : Byte := 0x20
def codeCounterRead : Byte := 0x21
def codeEngineUnlock : Byte := 0x22

/-- VEH alone: the zone requests (R176). -/
def vehOnly (p : Port) : Bool := decide (p = .veh)

/-- SVC alone: configuration, ring, wear, counter and unlock requests (R176). -/
def svcOnly (p : Port) : Bool := decide (p = .svc)

/-- VEH and SVC: RESYNC (R13, R176). -/
def vehOrSvc (p : Port) : Bool := decide (p = .veh) || decide (p = .svc)

/-- A body field of one byte. -/
def f8 (n : Nat) : Field := ⟨1, n⟩
/-- A body field of two bytes. -/
def f16 (n : Nat) : Field := ⟨2, n⟩
/-- A body field of four bytes. -/
def f32 (n : Nat) : Field := ⟨4, n⟩
/-- A body field of eight bytes. -/
def f64 (n : Nat) : Field := ⟨8, n⟩

/-- DONE, or CLAMPED when a value was clamped (R177). -/
def doneOr (clamped : Bool) : AnswerCode := if clamped then .clamped else .done

end Sys2Proof.Machine
end

