-- ==== Sys2Proof/Machine/Transmit.lean ====
section
/-! DEFINITION. The transmit queues (R175) and the bytes of the frames the part sends (R177, R178, R180). -/

namespace Sys2Proof.Machine

/-! ## Placing -/

/-- The places of a queue (R175). -/
def queuePlaces : Nat := 8

/-- Whether the queue holds 8 frames (R176, step 1). -/
def TxQueue.full (q : TxQueue) : Bool := decide (queuePlaces ≤ q.frames.length)

/-- The free places of a queue (R166). -/
def TxQueue.freePlaces (q : TxQueue) : Nat := queuePlaces - q.frames.length

def TxFrame.isGrant : TxFrame → Bool
  | .grant .. => true
  | .answer .. | .ringRecord .. | .serviceStatus => false

def TxFrame.isServiceStatus : TxFrame → Bool
  | .serviceStatus => true
  | .grant .. | .answer .. | .ringRecord .. => false

/-- The first frame that satisfies p, replaced in its place. -/
def replaceFirst (p : TxFrame → Bool) (x : TxFrame) : List TxFrame → List TxFrame
  | [] => []
  | f :: fs => if p f then x :: fs else f :: replaceFirst p x fs

/-- The frame in transmission, as a list of at most one: it stands at the front (R175). -/
def TxQueue.inTransmission (q : TxQueue) : List TxFrame := if q.sending.isSome then q.frames.take 1 else []

/-- The waiting frames (R175). -/
def TxQueue.waiting (q : TxQueue) : List TxFrame := if q.sending.isSome then q.frames.drop 1 else q.frames

/-- The placing of a GRANT or SERVICE_STATUS: it replaces a waiting frame of its kind in its place, is appended when
there is room, and is discarded otherwise (R175). -/
def TxQueue.placeLatest (p : TxFrame → Bool) (x : TxFrame) (q : TxQueue) : TxQueue :=
  if q.waiting.any p then { q with frames := q.inTransmission ++ replaceFirst p x q.waiting }
  else if q.full then q
  else { q with frames := q.frames ++ [x] }

/-- A frame appended; the caller has seen room (R175). -/
def TxQueue.append (x : TxFrame) (q : TxQueue) : TxQueue := { q with frames := q.frames ++ [x] }

/-- The waiting GRANTs leave a member's queue at PARK entry (R179). -/
def TxQueue.dropGrants (q : TxQueue) : TxQueue :=
  { q with frames := q.inTransmission ++ q.waiting.filter fun f => !f.isGrant }

/-- The port's overrun count, one more, saturating (R17, R19, R175). -/
def Device.overrun (d : Device) (p : Port) : Device :=
  match p.member with
  | some m =>
    let l := d.link m
    d.setLink m { l with counters := { l.counters with overruns := satInc max16 l.counters.overruns } }
  | none => { d with svc := { d.svc with overruns := satInc max16 d.svc.overruns } }

/-- An ANSWER placed in the port's queue, or discarded with an overrun where the queue is full (R175, R177). -/
def Device.answer (d : Device) (p : Port) (kind tag : Byte) (code : AnswerCode) (body : List Field) : Device :=
  if (d.txq p).full then d.overrun p
  else d.setTxq p ((d.txq p).append (.answer kind tag code body))

/-- A GRANT handed to a member's link controller (R40, R175). -/
def Device.placeGrant (d : Device) (m : Member) (g : TxFrame) : Device :=
  d.setTxq m.port ((d.txq m.port).placeLatest TxFrame.isGrant g)

/-- A SERVICE_STATUS placed in the SVC queue (R175, R178). -/
def Device.placeServiceStatus (d : Device) : Device :=
  d.setTxq .svc ((d.txq .svc).placeLatest TxFrame.isServiceStatus .serviceStatus)

/-! ## Bytes (section 9.6) -/

/-- One byte of a Nat. -/
def byteOf (n : Nat) : Byte := BitVec.ofNat 8 n

/-- A flag as a byte. -/
def byteOfBool (b : Bool) : Byte := if b then 1 else 0

/-- The kind codes of the frames the part sends (R180). -/
def TxFrame.kindCode : TxFrame → Byte
  | .grant .. => 0x02
  | .answer .. => 0x03
  | .serviceStatus => 0x04
  | .ringRecord .. => 0x05

/-- Whether a frame carries the notices of its port's set (R173). -/
def TxFrame.carriesNotices (f : TxFrame) : Bool := f.isGrant || f.isServiceStatus

/-- The record kind codes of R154. -/
def RingKind.code : RingKind → Nat
  | .reset => 0 | .mode => 1 | .link => 2 | .slip => 3 | .checkError => 4 | .claim => 5 | .engine => 6
  | .engineStart => 7 | .zone => 8 | .account => 9 | .wear => 10 | .brakeApply => 11 | .shortfall => 12
  | .limited => 13 | .config => 14 | .note => 15

/-- The port part of a GRANT, from byte 11. -/
def grantPartBytes : GrantPart → List Byte
  | .veh total links zone eBat eRes wear =>
    leSigned 2 total
      ++ (Member.all.map fun m => byteOf (links.get m).code)
      ++ [byteOf zone.code] ++ leBytes 2 eBat ++ leBytes 2 eRes
      ++ (Item.all.map fun i => byteOf (wear.get i).code)
  | .eng command pG unmet holder =>
    [byteOf command.code] ++ leSigned 2 pG ++ [byteOfBool unmet, byteOf holder]
  | .bat pB => leSigned 2 pB
  | .trc setpoint => leSigned 2 setpoint
  | .brk fF fR r share => leSigned 2 fF ++ leSigned 2 fR ++ leSigned 2 r ++ leSigned 1 share

/-- The presence flags of a record: bit 0 subject, bit 1 value1, bit 2 value2 (R180). -/
def Record.presence (r : Record) : Nat :=
  (if r.subject.isSome then 1 else 0) + (if r.value1.isSome then 2 else 0) + (if r.value2.isSome then 4 else 0)

/-- The payload of a frame, from byte 2, formed at the start of its transmission with the notices of its port's set as
they stand (R173, R178, R180). -/
def TxFrame.payload (d : Device) (n : NoticeSet) : TxFrame → List Byte
  | .grant mode link part =>
    [byteOf mode.code, byteOf link.code] ++ leBytes 2 n.pulses.toNat
      ++ [n.held, n.lostPorts, n.warnItems, n.limitItems, n.invalidItems] ++ grantPartBytes part
  | .answer kind tag code body =>
    [kind, tag, byteOf code.code] ++ body.flatMap fun f => leBytes f.width f.value
  | .serviceStatus =>
    [byteOf d.mode.mode.code] ++ leBytes 2 n.pulses.toNat ++ [n.held] ++ leBytes 2 d.ring.unread
      ++ leBytes 2 d.ring.missed ++ [byteOfBool d.nvBusy, byteOf d.ring.drain.code] ++ leBytes 2 d.ring.remaining
      ++ leBytes 4 d.runClock.toNat
  | .ringRecord slot r =>
    [byteOf slot] ++ leBytes 2 r.seq.toNat ++ [byteOf r.kind.code, byteOf r.subkind, byteOf r.presence]
      ++ [byteOf (r.subject.getD 0)] ++ leSigned 4 (r.value1.getD 0) ++ leSigned 4 (r.value2.getD 0)
      ++ leBytes 4 r.clock.toNat ++ leBytes 4 r.dist

/-- Byte 1: the alive counter in the high nibble, the port number in the low nibble (R180). -/
def byteOne (alive : BitVec 4) (p : Port) : Byte := byteOf (alive.toNat * 16 + p.number)

/-- The 32 bytes of a frame: kind, alive and port, payload filled with zeros to byte 30, CRC-8 (R1, R175, R180). -/
def frameBytes (kind : Byte) (alive : BitVec 4) (p : Port) (payload : List Byte) : List Byte :=
  withCrc (kind :: byteOne alive p :: padTo 29 payload)

/-! ## Transmission (R173, R175) -/

/-- The frame at the front of a port's queue starts its transmission: its bytes are formed, the pulses it carries leave
the set, and the transmit alive counter is advanced. -/
def Device.startTransmission (d : Device) (p : Port) : Device :=
  let q := d.txq p
  match q.sending, q.frames with
  | none, f :: _ =>
    let n := d.notices.get p
    let bytes := frameBytes f.kindCode q.alive p (f.payload d n)
    let d := d.setTxq p { q with sending := some bytes, alive := q.alive + 1 }
    if f.carriesNotices then { d with notices := d.notices.set p n.dropPulses } else d
  | _, _ => d

end Sys2Proof.Machine
end

