-- ==== Sys2Proof/Decode.lean ====
section
/-! DEFINITION. From the bytes of a received frame to the command it makes: the check and the dispatch of R1, R19 and
R176, and the fields of R180. The table gives its rows no bits, so no word spells a command (log 4). -/

namespace Sys2Proof

/-- The command that a word spells by the table's bits: no row of the table has any (log 4). -/
def decodeTableWord (_nbits _w : Nat) : Option Instr := none

namespace Machine

/-! ## Fields (R180) -/

/-- The two-byte field that starts at byte i. -/
def wordAt (f : List Byte) (i : Nat) : Word16 := BitVec.ofNat 16 (fieldAt f i 2)

/-- The four-byte field that starts at byte i. -/
def longAt (f : List Byte) (i : Nat) : Word32 := BitVec.ofNat 32 (fieldAt f i 4)

/-- Bit n of byte i. -/
def bitAt (f : List Byte) (i n : Nat) : Bool := (byteAt f i).getLsbD n

/-- The alive counter: the high nibble of byte 1. -/
def aliveOf (f : List Byte) : BitVec 4 := (byteAt f 1).extractLsb' 4 4

/-- The payload of a STATUS frame of a member port. -/
def statusBody (f : List Byte) : Member → StatusBody
  | .veh => .veh (bitAt f 2 7) (bitAt f 2 0) (bitAt f 2 1) (wordAt f 3) (byteAt f 5)
  | .eng => .eng (bitAt f 2 7) ((byteAt f 2).extractLsb' 0 2) (wordAt f 3)
  | .bat => .bat (bitAt f 2 7) (wordAt f 3) (wordAt f 5) (wordAt f 7) (wordAt f 9)
  | .trc => .trc (bitAt f 2 7) (wordAt f 3) (wordAt f 5)
  | .brk => .brk (bitAt f 2 7) (bitAt f 2 0) (wordAt f 3) (wordAt f 5) (byteAt f 7) (wordAt f 8) (wordAt f 10)

/-- A request frame by its kind code: the tag in byte 2, the parameters from byte 3 (R176, R180). -/
def requestOf (p : Port) (f : List Byte) : Instr :=
  let kind := byteAt f 0
  let tag := byteAt f 2
  if kind = codeClaim then .claim p tag (byteAt f 3) (wordAt f 4)
  else if kind = codeRelease then .release p tag (byteAt f 3)
  else if kind = codeZoneAdd then
    .zoneAdd p tag (byteAt f 3) (byteAt f 4) (longAt f 5) (wordAt f 9) (wordAt f 11)
  else if kind = codeZoneCancel then .zoneCancel p tag (byteAt f 3)
  else if kind = codeRouteReset then .routeReset p tag
  else if kind = codeResync then .resync p tag (byteAt f 3)
  else if kind = codeNote then .note p tag (longAt f 3) (longAt f 7)
  else if kind = codeAckNotice then .ackNotice p tag (byteAt f 3)
  else if kind = codeConfigWrite then .configWrite p tag (byteAt f 3) (longAt f 4)
  else if kind = codeConfigRead then .configRead p tag (byteAt f 3)
  else if kind = codeRingConfig then
    .ringConfig p tag (byteAt f 3) (wordAt f 4) (wordAt f 6) (wordAt f 8) (wordAt f 10) (wordAt f 12) (wordAt f 14)
      (byteAt f 16)
  else if kind = codeDrain then .drain p tag (wordAt f 3) (byteAt f 5)
  else if kind = codeDrainStop then .drainStop p tag
  else if kind = codeRingAck then .ringAck p tag (wordAt f 3)
  else if kind = codeWearRead then .wearRead p tag (byteAt f 3)
  else if kind = codeWearReset then .wearReset p tag (byteAt f 3)
  else if kind = codeWearSet then .wearSet p tag (byteAt f 3) (longAt f 4)
  else if kind = codeCounterRead then .counterRead p tag (byteAt f 3) (byteAt f 4)
  else if kind = codeEngineUnlock then .engineUnlock p tag
  else .unknownRequest p kind tag

/-- The length of a frame's data field (section 6 of the scope). -/
def frameLength : Nat := 32

/-- The check of R1: 32 bytes, the CRC-8 over bytes 0 to 30 agrees with byte 31, and the low nibble of byte 1 names the
receiving port. -/
def framePasses (p : Port) (f : List Byte) : Bool :=
  decide (f.length = frameLength) && decide (crc8 (f.take 31) = byteAt f 31)
    && decide (((byteAt f 1).extractLsb' 0 4).toNat = p.number)

/-- The command a frame received on a port makes (R1, R2, R19, R176). -/
def receiveFrame (p : Port) (f : List Byte) : Instr :=
  if !framePasses p f then .badFrameReceived p (byteAt f 0)
  else if byteAt f 0 = statusCode then
    match p.member with
    | some m => .statusFrame (aliveOf f) (statusBody f m)
    | none => .svcStatusFrame
  else requestOf p f

/-! ## The frame of a command -/

/-- Byte 2 of a STATUS frame: the wake flag in bit 7, two low bits. -/
def statusFlags (wake high low : Bool) : Byte := byteOf (wake.toNat * 128 + high.toNat * 2 + low.toNat)

/-- A two-byte field of a payload. -/
def bytes2 (w : Word16) : List Byte := leBytes 2 w.toNat

/-- A four-byte field of a payload. -/
def bytes4 (w : Word32) : List Byte := leBytes 4 w.toNat

/-- The payload of a STATUS frame. -/
def StatusBody.payload : StatusBody → List Byte
  | .veh w door park pDem dist => statusFlags w park door :: bytes2 pDem ++ [dist]
  | .eng w state pGen => byteOf (w.toNat * 128 + state.toNat) :: bytes2 pGen
  | .bat w pBd pBc pMeas eBms => statusFlags w false false :: bytes2 pBd ++ bytes2 pBc ++ bytes2 pMeas ++ bytes2 eBms
  | .trc w pTm pRm => statusFlags w false false :: bytes2 pTm ++ bytes2 pRm
  | .brk w slip capF capR sb appF appR =>
    statusFlags w false slip :: bytes2 capF ++ bytes2 capR ++ [sb] ++ bytes2 appF ++ bytes2 appR

/-- What a frame holds besides its alive counter and its CRC-8. -/
structure Framed where
  port : Port
  kind : Byte
  payload : List Byte
  deriving DecidableEq, Repr

/-- The frame that makes a command, for the commands that a good frame makes. -/
def framedOf : Instr → Option Framed
  | .statusFrame _ body => some ⟨body.member.port, statusCode, StatusBody.payload body⟩
  | .svcStatusFrame => some ⟨.svc, statusCode, []⟩
  | .unknownRequest p kind tag => some ⟨p, kind, [tag]⟩
  | .claim p tag kind load => some ⟨p, codeClaim, tag :: kind :: bytes2 load⟩
  | .release p tag kind => some ⟨p, codeRelease, [tag, kind]⟩
  | .zoneAdd p tag id kind start length estimate =>
    some ⟨p, codeZoneAdd, tag :: id :: kind :: bytes4 start ++ bytes2 length ++ bytes2 estimate⟩
  | .zoneCancel p tag id => some ⟨p, codeZoneCancel, [tag, id]⟩
  | .routeReset p tag => some ⟨p, codeRouteReset, [tag]⟩
  | .resync p tag target => some ⟨p, codeResync, [tag, target]⟩
  | .note p tag value1 value2 => some ⟨p, codeNote, tag :: bytes4 value1 ++ bytes4 value2⟩
  | .ackNotice p tag kind => some ⟨p, codeAckNotice, [tag, kind]⟩
  | .configWrite p tag param value => some ⟨p, codeConfigWrite, tag :: param :: bytes4 value⟩
  | .configRead p tag param => some ⟨p, codeConfigRead, [tag, param]⟩
  | .ringConfig p tag mode threshold enables slip check start brake clear =>
    some ⟨p, codeRingConfig,
      tag :: mode :: bytes2 threshold ++ bytes2 enables ++ bytes2 slip ++ bytes2 check ++ bytes2 start ++ bytes2 brake
        ++ [clear]⟩
  | .drain p tag count mode => some ⟨p, codeDrain, tag :: bytes2 count ++ [mode]⟩
  | .drainStop p tag => some ⟨p, codeDrainStop, [tag]⟩
  | .ringAck p tag seq => some ⟨p, codeRingAck, tag :: bytes2 seq⟩
  | .wearRead p tag item => some ⟨p, codeWearRead, [tag, item]⟩
  | .wearReset p tag item => some ⟨p, codeWearReset, [tag, item]⟩
  | .wearSet p tag item count => some ⟨p, codeWearSet, tag :: item :: bytes4 count⟩
  | .counterRead p tag group clear => some ⟨p, codeCounterRead, [tag, group, clear]⟩
  | .engineUnlock p tag => some ⟨p, codeEngineUnlock, [tag]⟩
  | .ignitionLineChange _ => none
  | .ignitionDebounceExpiry => none
  | .doorLineChange _ => none
  | .reset _ => none
  | .allocationCycle => none
  | .wakeSlow => none
  | .doorClosed => none
  | .doorDisagree => none
  | .shutdownLimit => none
  | .servicePresenceExpiry => none
  | .serviceStatus => none
  | .claimExpired _ => none
  | .crankTimerExpiry => none
  | .retryGapExpiry => none
  | .cooldownExpiry => none
  | .stopTimeout => none
  | .offDwellExpiry => none
  | .policyCheck => none
  | .runClockTick => none
  | .nvWriteComplete => none
  | .transmissionStart _ => none
  | .transmissionComplete _ => none
  | .badFrameReceived _ _ => none
  | .resetAsserted => none

/-- The alive counter of the frame that makes a command: a STATUS frame on a member port carries its own, any other
frame the sender's. -/
def aliveOfInstr (sender : BitVec 4) : Instr → BitVec 4
  | .statusFrame alive _ => alive
  | _ => sender

/-- The 32 bytes of the frame that makes a command (R180). -/
def encodeFrame (sender : BitVec 4) (i : Instr) : Option (List Byte) :=
  (framedOf i).map fun x => frameBytes x.kind (aliveOfInstr sender i) x.port x.payload

end Machine

end Sys2Proof
end

