-- ==== Sys2Proof/Machine/Clock.lean ====
section
/-! DEFINITION. What reaches the queue: a received frame, and the expiries that the passing of time brings (log 1, 3,
28). -/

namespace Sys2Proof.Machine

/-- A frame received on a port joins the waiting commands (log 28). -/
def State.receive (s : State) (p : Port) (frame : List Byte) : State :=
  { s with pending := s.pending ++ [receiveFrame p frame] }

/-! ## One millisecond -/

/-- A timer after 1 ms. -/
def Timer.tick (t : Timer) : Timer := t.map (· - 1)

/-- The expiry of a timer, if the timer has run out and not been stopped or restarted since. -/
def Timer.expiry (t : Timer) (i : Instr) : List Instr := if t = some 0 then [i] else []

/-- The expiries that are due: of the timers that have run out, in the order of the listing of State. -/
def Device.expiries (d : Device) : List Instr :=
  d.mode.debounce.expiry .ignitionDebounceExpiry ++ d.mode.doorAgree.expiry .doorClosed
    ++ d.mode.doorDisagree.expiry .doorDisagree ++ d.mode.wake.expiry .wakeSlow
    ++ d.mode.shutdown.expiry .shutdownLimit
    ++ d.svc.presence.expiry .servicePresenceExpiry ++ d.svc.status.expiry .serviceStatus
    ++ d.alloc.timer.expiry .allocationCycle
    ++ ClaimKind.all.flatMap (fun k => (d.claim k).age.expiry (.claimExpired k))
    ++ d.seq.crank.expiry .crankTimerExpiry ++ d.seq.gap.expiry .retryGapExpiry
    ++ d.seq.cool.expiry .cooldownExpiry ++ d.seq.stop.expiry .stopTimeout
    ++ d.seq.offDwell.expiry .offDwellExpiry ++ d.seq.policy.expiry .policyCheck
    ++ d.nv.left.expiry .nvWriteComplete
    ++ (if d.clockLeft = 0 then [.runClockTick] else [])

/-- The mode controller's timers after 1 ms. -/
def ModeCtl.tick (m : ModeCtl) : ModeCtl :=
  { m with
    debounce := m.debounce.tick, doorAgree := m.doorAgree.tick, doorDisagree := m.doorDisagree.tick,
    wake := m.wake.tick, shutdown := m.shutdown.tick }

/-- The sequencer's timers after 1 ms; the run-time and the time in CRANKING count up (R122, R125). -/
def Sequencer.tick (q : Sequencer) : Sequencer :=
  { q with
    crank := q.crank.tick, gap := q.gap.tick, cool := q.cool.tick, stop := q.stop.tick, offDwell := q.offDwell.tick,
    policy := q.policy.tick, runTime := q.runTime.map (· + 1),
    crankTime := if q.state = .cranking then q.crankTime + 1 else q.crankTime }

/-- Every timer of the part after 1 ms; a block write that started in the ms before is no longer fresh (log 31); all else
stands. -/
def Device.tickTimers (d : Device) : Device :=
  { d with
    mode := d.mode.tick
    svc := { d.svc with presence := d.svc.presence.tick, status := d.svc.status.tick }
    alloc := { d.alloc with timer := d.alloc.timer.tick }
    arbiter := { d.arbiter with claims := d.arbiter.claims.map fun c => { c with age := c.age.tick } }
    seq := d.seq.tick
    nv := { d.nv with left := d.nv.left.tick, blockFresh := false }
    clockLeft := d.clockLeft - 1 }

/-! ## Expiries -/

/-- The run clock's next period begins as its tick comes (R155). -/
def Device.beginPeriod (d : Device) (i : Instr) : Device :=
  if i = .runClockTick then { d with clockLeft := msRunClock } else d

/-- The expiry that comes next, of `i` and `is` that are due: the one a free value names, where there is a choice
(log 3). -/
def nextExpiry (free : Nat) (i : Instr) (is : List Instr) : Instr :=
  (i :: is).getD (Config.tieChoice free % (is.length + 1)) i

/-- The clock of the part on an empty queue (log 1): one of the expiries that are due comes into the queue, and where none
is due 1 ms passes. An expiry is thus at the front of the queue as it comes, and a timer that is stopped or restarted
while another expiry of the same ms is carried out brings none (R37, R61). -/
def State.tick (s : State) : State :=
  if s.dev.inReset then s
  else
    match s.dev.expiries with
    | [] => { s with dev := s.dev.tickTimers }
    | [i] => { pending := s.pending ++ [i], dev := s.dev.beginPeriod i }
    | i :: j :: is =>
      let next := nextExpiry s.dev.free i (j :: is)
      { pending := s.pending ++ [next], dev := { s.dev.beginPeriod next with free := s.dev.free + 1 } }

end Sys2Proof.Machine
end

