-- ==== Sys2Proof/Machine/Allocation.lean ====
section
/-! DEFINITION. The arithmetic of one allocation cycle (chapters 3 and 4): from the values a cycle reads to the values it
grants. Powers in hW, energies in J, all as exact integers (section 5 of the scope). -/

namespace Sys2Proof.Machine

/-- What a cycle reads (R39, R41, R42, R62, R82): the mode after the take, the used values, the neighbours' values and
the parameters. `minLoad` is P_gmin's source: FILTER_RUN's minimum load while it is HOLDING, else 0. -/
structure CycleIn where
  mode : Mode
  pDem : Int
  lim : Limits
  kBw : Int
  anchored : Bool
  eBat : Int
  eRes : Int
  eFloor : Int
  eBand : Int
  eLift : Int
  insideEmissionFree : Bool
  insideQuiet : Bool
  running : Bool
  minLoad : Int
  lowCharge : Bool
  pCreep : Int
  pQuiet : Int
  brkUsable : Bool
  brkFrozen : Bool
  slip : Bool
  sB : Int
  wornF : Bool
  wornR : Bool
  w : Int
  sLo : Int
  sHi : Int
  pRegmax : Int
  rUp : Int
  rPrev : Int
  deriving DecidableEq, Repr

/-- What a cycle grants. `braking` tells a braking cycle from a traction cycle; `s` is the shortfall; `share` the
applied front share s'. -/
structure Allocation where
  braking : Bool
  pT : Int
  pG : Int
  r : Int
  fF : Int
  fR : Int
  s : Int
  share : Int
  deriving DecidableEq, Repr

/-! ## Demand, allowances and availability (R43 to R50) -/

/-- The conditioned demand P_d (R43). -/
def CycleIn.pD (c : CycleIn) : Int :=
  let p := clampInt c.pDem (-6000) 3000
  match c.mode with
  | .run => p
  | .limited => min p c.pCreep
  | .halt | .shutdown => min p 0
  | .waking | .park => 0

/-- P_bd1 = floor(P_bd × k_bw / 256) (R45). -/
def CycleIn.pBd1 (c : CycleIn) : Int := c.lim.pBd * c.kBw / 256

/-- P_bc1 = floor(P_bc × k_bw / 256) (R45). -/
def CycleIn.pBc1 (c : CycleIn) : Int := c.lim.pBc * c.kBw / 256

/-- The taper fraction a (R46). -/
def CycleIn.taper (c : CycleIn) : Int :=
  if c.anchored = false then 0
  else if c.eBat ≤ c.eRes then 0
  else if c.eRes + c.eBand ≤ c.eBat then 256
  else 256 * (c.eBat - c.eRes) / c.eBand

/-- The zone-limp condition (R47). -/
def CycleIn.limp (c : CycleIn) : Bool :=
  c.insideEmissionFree && (!c.anchored || decide (c.eBat ≤ c.eFloor))

/-- P_bd2 (R46, R47). -/
def CycleIn.pBd2 (c : CycleIn) : Int :=
  if c.insideEmissionFree then (if c.limp then min c.pBd1 c.pCreep else c.pBd1)
  else c.pBd1 * c.taper / 256

/-- The generator availability P_ga (R49). -/
def CycleIn.pGa (c : CycleIn) : Int :=
  let g := if c.running then c.lim.pGen else 0
  if c.insideQuiet then min g c.pQuiet else g

/-! ## Traction path (R51 to R53) -/

/-- P_t = min(P_d, P_tm, P_bd2 + P_ga) (R51). -/
def CycleIn.pT (c : CycleIn) : Int := min (min c.pD c.lim.pTm) (c.pBd2 + c.pGa)

/-- E_target = E_res + E_lift (R52). -/
def CycleIn.eTarget (c : CycleIn) : Int := c.eRes + c.eLift

/-- The sustain fraction b (R52). -/
def CycleIn.sustain (c : CycleIn) : Int :=
  if c.lowCharge then 256
  else if c.anchored = false then 256
  else if c.eTarget ≤ c.eBat then 0
  else min (256 * (c.eTarget - c.eBat) / c.eBand) 256

/-- The wished generator power P_gw (R52). -/
def CycleIn.pGw (c : CycleIn) : Int := c.pGa * c.sustain / 256

/-- The lower bound L of the generator grant (R53). -/
def CycleIn.genLow (c : CycleIn) : Int := max (c.pT - c.pBd2) 0

/-- The upper bound U of the generator grant (R53). -/
def CycleIn.genHigh (c : CycleIn) : Int := min c.pGa (c.pT + c.pBc1)

/-- P_g of a traction cycle (R53). -/
def CycleIn.pGTraction (c : CycleIn) : Int := clampInt (max c.pGw c.minLoad) c.genLow c.genHigh

/-! ## Braking blend (R64 to R74) -/

/-- The braking demand B (R64). -/
def CycleIn.demandB (c : CycleIn) : Int := -c.pD

/-- P_g of a braking cycle (R54, R65). -/
def CycleIn.pGBraking (c : CycleIn) : Int := min (min c.minLoad c.pGa) c.pBc1

/-- The charge room C (R65). -/
def CycleIn.room (c : CycleIn) : Int := c.pBc1 - c.pGBraking

/-- The regeneration cap (R66). -/
def CycleIn.rCap (c : CycleIn) : Int := min (min c.demandB c.lim.pRm) (min c.room c.pRegmax)

/-- Regeneration is withdrawn: wheel-slip control is active, or BRK is substituted (R67). -/
def CycleIn.withdrawn (c : CycleIn) : Bool := !c.brkUsable || c.slip

/-- The regeneration grant R (R67, R68). -/
def CycleIn.regen (c : CycleIn) : Int :=
  if c.withdrawn then 0
  else
    let r := min c.rCap (c.rPrev + c.rUp)
    if c.brkFrozen then min r c.rPrev else r

/-- The wear bias (R70). -/
def CycleIn.bias (c : CycleIn) : Int :=
  match c.wornF, c.wornR with
  | true, false => -c.w
  | false, true => c.w
  | false, false => 0
  | true, true => 0

/-- The used s_b: the taken value, or 128 while BRK is substituted (R71). -/
def CycleIn.usedShare (c : CycleIn) : Int := if c.brkUsable then c.sB else 128

/-- The applied front share s' (R71). -/
def CycleIn.share (c : CycleIn) : Int := clampInt (c.usedShare + c.bias) c.sLo c.sHi

/-- A front and a rear friction grant. -/
structure Split where
  front : Int
  rear : Int
  deriving DecidableEq, Repr

/-- The split of a friction total by the front share, a half rounded up (R72). -/
def splitFriction (f share : Int) : Split :=
  let front := (f * share + 128) / 256
  ⟨front, f - front⟩

/-- The front step of R73. -/
def frontStep (capF : Int) (x : Split) : Split :=
  if capF < x.front then ⟨capF, x.rear + (x.front - capF)⟩ else x

/-- The rear step of R73. -/
def rearStep (capF capR : Int) (x : Split) : Split :=
  if capR < x.rear then ⟨x.front + min (x.rear - capR) (capF - x.front), capR⟩ else x

/-- The friction grants: the split, fitted to the used capacities while BRK is usable (R72, R73). -/
def CycleIn.friction (c : CycleIn) : Split :=
  let x := splitFriction (c.demandB - c.regen) c.share
  if c.brkUsable then rearStep c.lim.capF c.lim.capR (frontStep c.lim.capF x) else x

/-! ## The cycle -/

/-- The grants of a traction cycle outside WAKING (R51, R53, R55). -/
def CycleIn.traction (c : CycleIn) : Allocation :=
  { braking := false, pT := c.pT, pG := c.pGTraction, r := 0, fF := 0, fR := 0, s := 0, share := c.share }

/-- The grants of a braking cycle (R54, R64, R74). -/
def CycleIn.brake (c : CycleIn) : Allocation :=
  { braking := true, pT := 0, pG := c.pGBraking, r := c.regen, fF := c.friction.front, fR := c.friction.rear,
    s := c.demandB - c.regen - c.friction.front - c.friction.rear, share := c.share }

/-- The grants of a WAKING cycle (R44). -/
def Allocation.waking : Allocation :=
  { braking := false, pT := 0, pG := 0, r := 0, fF := 0, fR := 0, s := 0, share := 128 }

/-- The grants of a cycle (R38, R43, R44). -/
def CycleIn.allocate (c : CycleIn) : Allocation :=
  match c.mode with
  | .waking | .park => .waking
  | .limited | .run | .halt | .shutdown => if c.pD < 0 then c.brake else c.traction

/-- The planned battery power P_b (R53, R60). -/
def Allocation.pB (a : Allocation) : Int := if a.braking then -(a.r + a.pG) else a.pT - a.pG

/-- The total granted power of the VEH GRANT (R58). -/
def Allocation.total (a : Allocation) : Int := if a.braking then -(a.r + a.fF + a.fR) else a.pT

/-- The motor setpoint of the TRC GRANT (R60). -/
def Allocation.setpoint (a : Allocation) : Int := if a.braking then -a.r else a.pT

/-- The min-load-unmet flag, set outside WAKING when P_gmin > P_g (R54). -/
def CycleIn.unmet (c : CycleIn) : Bool :=
  match c.mode with
  | .waking | .park => false
  | .limited | .run | .halt | .shutdown => decide (c.allocate.pG < c.minLoad)

/-- A traction-limited cycle (R56). -/
def CycleIn.tractionLimited (c : CycleIn) : Bool :=
  !c.allocate.braking && decide (c.allocate.pT < c.pD)

end Sys2Proof.Machine
end

