-- ==== Sys2Proof/Machine/EventRing.lean ====
section
/-! DEFINITION. The event ring: the gates of an offered occurrence (R156), storing (R157 to R159), RING_FILL (R161), the
drain (R166 to R169) and acknowledgement (R170). -/

namespace Sys2Proof.Machine

/-! ## Kinds (R154) -/

/-- The sampled kinds. -/
def RingKind.sampled : RingKind → Bool
  | .slip | .checkError | .engineStart | .brakeApply => true
  | .reset | .mode | .link | .claim | .engine | .zone | .account | .wear | .shortfall | .limited | .config | .note =>
    false

/-- The non-maskable kinds: their enable is always on. -/
def RingKind.nonMaskable : RingKind → Bool
  | .reset | .link | .engine | .wear | .config | .note => true
  | .mode | .slip | .checkError | .claim | .engineStart | .zone | .account | .brakeApply | .shortfall | .limited =>
    false

/-- Whether a kind's records carry value1. -/
def RingKind.hasValue1 : RingKind → Bool
  | .reset => false
  | _ => true

/-- Whether a kind's records carry value2. -/
def RingKind.hasValue2 : RingKind → Bool
  | .reset | .link | .checkError => false
  | _ => true

/-- The sampling interval of a kind: parameters 67 to 70 (R181). -/
def ParamTable.interval (t : ParamTable) : RingKind → Nat
  | .slip => t.get 67
  | .checkError => t.get 68
  | .engineStart => t.get 69
  | .brakeApply => t.get 70
  | _ => 0

/-- Whether a kind's enable is on (R156). -/
def ParamTable.enabled (t : ParamTable) (k : RingKind) : Bool := k.nonMaskable || t.enables.testBit k.code

/-- A kind's sampling counter. -/
def Ring.sampler (g : Ring) : RingKind → Nat
  | .slip => g.sampSlip
  | .checkError => g.sampCheck
  | .engineStart => g.sampStart
  | .brakeApply => g.sampBrake
  | _ => 0

/-- The ring with a kind's sampling counter at a value. -/
def Ring.setSampler (g : Ring) (k : RingKind) (n : Nat) : Ring :=
  match k with
  | .slip => { g with sampSlip := n }
  | .checkError => { g with sampCheck := n }
  | .engineStart => { g with sampStart := n }
  | .brakeApply => { g with sampBrake := n }
  | _ => g

/-- The four sampling counters set to the intervals of a configuration (R163, R171). -/
def Ring.resetSamplers (g : Ring) (t : ParamTable) : Ring :=
  { g with sampSlip := t.get 67, sampCheck := t.get 68, sampStart := t.get 69, sampBrake := t.get 70 }

/-! ## Gates and storing -/

/-- An occurrence a block offers (R153). -/
structure Occurrence where
  kind : RingKind
  subkind : Nat
  subject : Nat
  value1 : Int
  value2 : Int
  deriving DecidableEq, Repr

/-- The record of an occurrence: values absent by kind and saturated at the offer (R153, R154). The subject is present in
every kind, also where R154 gives it as 0 (the model's reading: log 35). -/
def Occurrence.record (o : Occurrence) (clock : Word32) (dist : Nat) (seq : Word16) : Record :=
  { seq := seq, kind := o.kind, subkind := o.subkind, clock := clock, dist := dist, subject := some o.subject,
    value1 := if o.kind.hasValue1 then some (satValue o.value1) else none,
    value2 := if o.kind.hasValue2 then some (satValue o.value2) else none }

/-- Whether an occurrence passes both gates (R156). -/
def Ring.passes (g : Ring) (t : ParamTable) (k : RingKind) : Bool :=
  t.enabled k && (!k.sampled || decide (g.sampler k = 0))

/-- The sampling counter after an occurrence: untouched if the enable is off, reloaded at 0, else one less (R156). -/
def Ring.sample (g : Ring) (t : ParamTable) (k : RingKind) : Ring :=
  if t.enabled k && k.sampled then
    g.setSampler k (if g.sampler k = 0 then t.interval k else g.sampler k - 1)
  else g

/-- The slots of the ring (section 6 of the scope). -/
def ringSlots : Nat := 256

/-- A record stored: into the slot at head with room (R157), over the oldest unread record in WRAP (R158), in place of
the newest in HOLD (R159). -/
def Ring.push (g : Ring) (hold : Bool) (mk : Word16 → Record) : Ring :=
  if g.unread < ringSlots then
    { g with slots := g.slots.set (g.head % ringSlots) (some (mk g.seq)), seq := g.seq + 1, head := g.head + 1 }
  else if hold then
    { g with
      slots := g.slots.set ((g.head - 1) % ringSlots) (some (mk g.seq)), seq := g.seq + 1,
      missed := satInc max16 g.missed, cursor := if g.cursor = g.head then g.head - 1 else g.cursor }
  else
    { g with
      slots := g.slots.set (g.head % ringSlots) (some (mk g.seq)), seq := g.seq + 1, head := g.head + 1,
      tail := g.tail + 1, missed := satInc max16 g.missed, cursor := max g.cursor (g.tail + 1) }

/-- The record at a position, if its slot holds one. -/
def Ring.at (g : Ring) (p : Nat) : Option Record := g.slots.getD (p % ringSlots) none

/-- Whether a store from this ring brings the unread count up to the threshold, from one below it (R161). -/
def Ring.fills (g : Ring) (threshold : Nat) : Bool :=
  decide (g.unread < ringSlots) && decide (g.unread + 1 = threshold)

/-! ## Drain -/

/-- What a drain works on: the ring, the SVC transmit queue and the SVC overrun count; and, at the end of the 32-bit
sent count, the count of free values used (log 20). -/
structure DrainIO where
  ring : Ring
  queue : TxQueue
  overruns : Nat
  free : Nat
  deriving DecidableEq, Repr

/-- The sent count after one more record; past 32 bits no rule states it (log 20). -/
def nextSent (sent free : Nat) : Nat := if sent < max32 then sent + 1 else Config.sentCountPast free % (max32 + 1)

/-- An ANSWER of the drain placed in the SVC queue, or discarded with an overrun (R167, R175). -/
def DrainIO.answer (io : DrainIO) (code : AnswerCode) (body : List Field) : DrainIO :=
  if io.queue.full then { io with overruns := satInc max16 io.overruns }
  else { io with queue := io.queue.append (.answer codeDrain io.ring.tag code body) }

/-- Whether the drain places a record now: it is active, a record lies at the cursor, some remain to be sent, and at
least 2 places of the SVC queue are free (R166). -/
def DrainIO.ready (io : DrainIO) : Bool :=
  decide (io.ring.drain ≠ .idle) && decide (io.ring.cursor < io.ring.head) && decide (0 < io.ring.remaining)
    && decide (2 ≤ io.queue.freePlaces)

/-- One placement: the record at the cursor goes into the queue as it stands (R166). -/
def DrainIO.place (io : DrainIO) (r : Record) : DrainIO :=
  { io with
    queue := io.queue.append (.ringRecord (io.ring.cursor % ringSlots) r),
    ring :=
      { io.ring with
        cursor := io.ring.cursor + 1, remaining := io.ring.remaining - 1, sent := nextSent io.ring.sent io.free,
        lastSeq := r.seq },
    free := if io.ring.sent < max32 then io.free else io.free + 1 }

/-- The batch answer and the reload of a CONTINUOUS drain whose remaining count has reached 0 (R168). -/
def DrainIO.batch (io : DrainIO) : DrainIO :=
  if io.ring.drain = .continuous ∧ io.ring.remaining = 0 then
    let io := io.answer .done [f16 io.ring.reload, f16 io.ring.lastSeq.toNat]
    { io with ring := { io.ring with remaining := io.ring.reload } }
  else io

/-- The end of a ONE_SHOT drain whose count is spent or beyond whose cursor no record lies (R167). -/
def DrainIO.finish (io : DrainIO) : DrainIO :=
  if io.ring.drain = .oneShot ∧ (io.ring.remaining = 0 ∨ io.ring.head ≤ io.ring.cursor) then
    let io := io.answer (doneOr io.ring.clamped) [f16 io.ring.sent, f16 io.ring.lastSeq.toNat]
    { io with ring := { io.ring with drain := .idle } }
  else io

/-- An evaluation of the drain with room for `fuel` placements: placements while they can be made, then the end of a
ONE_SHOT drain (R166 to R168). Each placement takes one of the 8 places and leaves one free, so 8 is enough. -/
def drainLoop : (fuel : Nat) → DrainIO → DrainIO
  | 0, io => io.finish
  | fuel + 1, io =>
    if io.ready then
      match io.ring.at io.ring.cursor with
      | some r => drainLoop fuel (io.place r).batch
      | none => io.finish
    else io.finish

/-- An evaluation of the drain (R166). -/
def evalDrain (io : DrainIO) : DrainIO := drainLoop queuePlaces io

/-- The part's drain state and what it works on. -/
def Device.drainIO (d : Device) : DrainIO := ⟨d.ring, d.tx.svc, d.svc.overruns, d.free⟩

/-- The part with the results of a drain put back. -/
def Device.withDrainIO (d : Device) (io : DrainIO) : Device :=
  { d with
    ring := io.ring, tx := { d.tx with svc := io.queue }, svc := { d.svc with overruns := io.overruns },
    free := io.free }

/-- The drain evaluated in the part. -/
def Device.evalDrain (d : Device) : Device := d.withDrainIO (Machine.evalDrain d.drainIO)

/-! ## Offers -/

/-- A record stored in the part: the store, RING_FILL at SVC and VEH when the unread count reaches the threshold, and the
evaluation of the drain (R157, R161, R166). -/
def Device.store (d : Device) (mk : Word16 → Record) : Device :=
  let stored := { d.drainIO with ring := d.ring.push d.params.hold mk }
  let fill := d.ring.fills d.params.threshold
  let d := d.withDrainIO (Machine.evalDrain stored)
  if fill then (d.raiseHeld .svc .ringFill 0).raiseHeld .veh .ringFill 0 else d

/-- An occurrence offered with a stamp of its own (R78, R153): it passes the gates and is stored, or is discarded. -/
def Device.offerAt (d : Device) (clock : Word32) (dist : Nat) (o : Occurrence) : Device :=
  let sampled := { d with ring := d.ring.sample d.params o.kind }
  if d.ring.passes d.params o.kind then sampled.store (o.record clock dist) else sampled

/-- An occurrence offered now, stamped with the run clock and D_route_m as they stand (R153). -/
def Device.offer (d : Device) (o : Occurrence) : Device := d.offerAt d.runClock d.dRouteM o

/-- Several occurrences of one event, in the order of the block that offers them (R156). -/
def Device.offerAll (d : Device) (os : List Occurrence) : Device := os.foldl Device.offer d

/-! ## Acknowledgement and clear -/

/-- The position of the first unread record, from the tail, whose sequence number is `seq` (R170), searching `n`
positions from `p`. -/
def Ring.findFrom (g : Ring) (seq : Word16) : (n p : Nat) → Option Nat
  | 0, _ => none
  | n + 1, p =>
    if (g.at p).any (fun r => decide (r.seq = seq)) then some p else g.findFrom seq n (p + 1)

/-- The position of the oldest unread record of a sequence number (R170). -/
def Ring.find (g : Ring) (seq : Word16) : Option Nat := g.findFrom seq g.unread g.tail

/-- The tail moved past position p, the cursor with it where it lay behind (R170). -/
def Ring.ackTo (g : Ring) (p : Nat) : Ring := { g with tail := p + 1, cursor := max g.cursor (p + 1) }

/-- The ring emptied: the three positions at 0, every slot empty, the missed count 0 (R164). -/
def Ring.emptied (g : Ring) : Ring :=
  { g with slots := List.replicate ringSlots none, head := 0, tail := 0, cursor := 0, missed := 0 }

end Sys2Proof.Machine
end

