-- ==== Sys2Proof/Machine/WearTable.lean ====
section
/-! DEFINITION. The wear table (R136 to R147) and the start of cell writes by the write engine (R149). -/

namespace Sys2Proof.Machine

/-! ## The write engine: choosing and starting -/

/-- The pending wear cell with the lowest item code (R149). -/
def Device.pendingItem (d : Device) : Option Item := Item.all.find? fun i => (d.wear.get i).pending

/-- The state with a wear item at a value. -/
def Device.setWear (d : Device) (i : Item) (w : WearItem) : Device := { d with wear := d.wear.set i w }

/-- The state with the non-volatile store at a value. -/
def Device.setNv (d : Device) (nv : Nv) : Device := { d with nv := nv }

/-- The next cell is chosen and its write started: its flag cleared, its contents captured; with nothing pending the
engine is idle (R149). -/
def Device.startNext (d : Device) : Device :=
  match d.pendingItem with
  | some i =>
    { d with
      wear := d.wear.set i { d.wear.get i with pending := false },
      nv := { d.nv with writing := some (.wear i (d.wear.get i).count), left := some msCellWrite, blockFresh := false } }
  | none =>
    if d.nv.blockPending then
      { d with
        nv :=
          { d.nv with
            writing := some (.block d.params.vals), left := some msCellWrite, blockPending := false,
            blockFresh := false } }
    else { d with nv := { d.nv with writing := none, left := none, blockFresh := false } }

/-- Whether the block's write gives way to a wear cell: it started at the taking of a CONFIG_WRITE in the present ms. -/
def Nv.givesWay (n : Nv) : Bool :=
  n.blockFresh && (match n.writing with | some (.block _) => true | _ => false)

/-- A flag has been set: an idle engine chooses at once, and a busy one at its completion (R149). -/
def Device.kick (d : Device) : Device := if d.nv.writing.isNone then d.startNext else d

/-- A wear cell has been flagged by an increment or a WEAR_RESET. R184 has it served before a block whose CONFIG_WRITE comes
together with it, whichever of the two is taken first: a block write that the CONFIG_WRITE has started in the present ms
gives way, and the block is pending again (the model's reading of R149 with R184: log 31). -/
def Device.kickFirst (d : Device) : Device :=
  if d.nv.givesWay then ({ d with nv := { d.nv with blockPending := true } }).startNext else d.kick

/-- Whether an item's write is outstanding: pending, or its cell being written (R145). -/
def Device.itemBusy (d : Device) (i : Item) : Bool :=
  (d.wear.get i).pending || (match d.nv.writing with | some (.wear j _) => decide (j = i) | _ => false)

/-- Whether the configuration block is pending or being written (R149). -/
def Device.blockBusy (d : Device) : Bool :=
  d.nv.blockPending || (match d.nv.writing with | some (.block _) => true | _ => false)

/-! ## Marks and states -/

/-- The state of a count against its marks (R139). -/
def wearStateOf (count warn limit : Nat) : WearState :=
  if count < warn then .normal else if count < limit then .warned else .limit

/-- The state an item's count and marks give (R139). -/
def Device.wearStateNow (d : Device) (i : Item) : WearState :=
  wearStateOf (d.wear.get i).count (d.params.warnMark i.code) (d.params.limitMark i.code)

/-- The causes of a WEAR record (R140). -/
inductive WearCause where
  | count | marks | load | wearReset | wearSet
  deriving DecidableEq, Repr

/-- The cause codes of R140. -/
def WearCause.code : WearCause → Nat
  | .count => 0 | .marks => 1 | .load => 2 | .wearReset => 3 | .wearSet => 4

/-- The held notices of a change of state (R140): into WARNED from NORMAL, into LIMIT, both from NORMAL to LIMIT. A
change into WARNED out of INVALID counts as a change into it (log 18). -/
def crossingNotices (old new : WearState) : List HeldKind :=
  match old, new with
  | .normal, .warned => [.wearWarn]
  | .invalid, .warned => [.wearWarn]
  | .normal, .limit => [.wearWarn, .wearLimit]
  | .warned, .limit => [.wearLimit]
  | .invalid, .limit => [.wearLimit]
  | _, _ => []

/-- A wear notice raised at VEH and at the item's member, the item in its set (R140, R151). -/
def Device.raiseWear (d : Device) (i : Item) (k : HeldKind) : Device :=
  (d.raiseHeld .veh k (subjectBit i.code)).raiseHeld i.member k (subjectBit i.code)

/-- Several wear notices of one item. -/
def Device.raiseWearAll (d : Device) (i : Item) (ks : List HeldKind) : Device :=
  ks.foldl (fun d k => d.raiseWear i k) d

/-- A WEAR record of an item as it stands (R140). -/
def Device.offerWear (d : Device) (i : Item) (cause : WearCause) : Device :=
  let w := d.wear.get i
  d.offer ⟨.wear, w.state.code, i.code, w.count, cause.code⟩

/-- An item's state recomputed (R139): an INVALID item keeps its state (R141); a change writes a WEAR record and raises
the notices of R140. -/
def Device.recomputeWear (d : Device) (i : Item) (cause : WearCause) : Device :=
  let w := d.wear.get i
  let new := d.wearStateNow i
  if w.state = .invalid ∨ w.state = new then d
  else ((d.setWear i { w with state := new }).offerWear i cause).raiseWearAll i (crossingNotices w.state new)

/-! ## Feeds -/

/-- A feed added to an item's remainder; at the quantum one count is made, and flagged for a write unless the item is INVALID
(R137, R138). -/
def Device.feedWear (d : Device) (i : Item) (amount : Nat) : Device :=
  let w := d.wear.get i
  let r := w.rem + amount
  if r < i.quantum then d.setWear i { w with rem := r }
  else if max32 ≤ w.count then d.setWear i { w with rem := r - i.quantum }
  else
    let d := d.setWear i
      { w with count := w.count + 1, rem := r - i.quantum, pending := w.pending || decide (w.state ≠ .invalid) }
    let d := d.recomputeWear i .count
    if w.state = .invalid then d else d.kickFirst

/-! ## Service requests on an item -/

/-- The effect of a WEAR_RESET or WEAR_SET that is taken (R146): the count set, the remainder 0, INVALID left, the state
computed, one WEAR record whether or not it changed, the notices of a change, the flag set, and the answer deferred. R184
lets a WEAR_RESET, and not a WEAR_SET, go before a block write that has just started (log 31). -/
def Device.setCount (d : Device) (i : Item) (count : Nat) (cause : WearCause) (await : WearAwait) : Device :=
  let old := (d.wear.get i).state
  let new := wearStateOf count (d.params.warnMark i.code) (d.params.limitMark i.code)
  let d := d.setWear i { count := count, rem := 0, state := new, pending := true, awaiting := some await }
  let d := (d.offerWear i cause).raiseWearAll i (crossingNotices old new)
  if cause = .wearReset then d.kickFirst else d.kick

end Sys2Proof.Machine
end

