-- ==== Sys2Proof/Machine/Park.lean ====
section
/-! DEFINITION. A change of mode (R24), PARK entry (R18, R35, R36, R61, R107, R135, R179) and the end of SHUTDOWN
(R34). -/

namespace Sys2Proof.Machine

/-- The causes of a change of mode, in the order of the table of R24. -/
inductive ModeCause where
  | ignitionOn | wakeFrame | resetIgnition | linksReady | runReady | linkDown | doorOpen | doorClosed | ignitionOff
  | vehSleep | shutdownDone | shutdownLimit
  deriving DecidableEq, Repr

/-- The cause codes of R154. -/
def ModeCause.code : ModeCause → Nat
  | .ignitionOn => 1 | .wakeFrame => 2 | .resetIgnition => 3 | .linksReady => 4 | .runReady => 5 | .linkDown => 6
  | .doorOpen => 7 | .doorClosed => 8 | .ignitionOff => 9 | .vehSleep => 10 | .shutdownDone => 11
  | .shutdownLimit => 12

/-- The subkinds of MODE records that are no change of mode (R154). -/
def subkindWakeSlow : Nat := 6
def subkindDoorDisagree : Nat := 7

/-- The MODE record of a change: subkind the new mode, subject the cause, value1 the previous mode, value2 the cause
detail (R24). -/
def Device.offerMode (d : Device) (new : Mode) (cause : ModeCause) (detail : Nat) : Device :=
  d.offer ⟨.mode, new.code, cause.code, d.mode.mode.code, detail⟩

/-- A change to a mode other than PARK: its MODE record, the mode, and MODE_CHANGED at the member ports (R24). -/
def Device.changeMode (d : Device) (new : Mode) (cause : ModeCause) (detail : Nat) : Device :=
  let d := d.offerMode new cause detail
  (d.setMode { d.mode with mode := new }).raiseModeChanged

/-- A member link at PARK entry: SILENT and empty, its error counters kept (R18, R35). -/
def Link.parked (l : Link) : Link := { Link.cleared with counters := l.counters }

/-- The mode controller at PARK entry: the ignition and its debounce are kept (R35). -/
def ModeCtl.parked (m : ModeCtl) : ModeCtl :=
  { ModeCtl.cleared m.ignition with debounce := m.debounce }

/-- The allocator at PARK entry: totals and count kept, everything else as after reset (R35, R61). -/
def Allocator.parked (a : Allocator) : Allocator :=
  { Allocator.cleared with regenTotal := a.regenTotal, frictionTotal := a.frictionTotal, applyCount := a.applyCount }

/-- A claim at PARK entry: IDLE, no minimum load, no age timer; its level stays as it was taken (R112, R135). -/
def Claim.parked (c : Claim) : Claim := { c with state := .idle, load := 0, age := none }

/-- The sequencer at PARK entry: OFF, the latest engine state kept (R135). -/
def Sequencer.parked (q : Sequencer) : Sequencer := { Sequencer.cleared with engine := q.engine }

/-- PARK entry: the one MODE record, then every block's effect of R35 and R36; pulses are removed undelivered from all
six sets, and the members' waiting GRANTs leave their queues (R179). -/
def Device.enterPark (d : Device) (cause : ModeCause) (detail : Nat) : Device :=
  let d := d.offerMode .park cause detail
  { d with
    mode := d.mode.parked, links := d.links.map Link.parked, alloc := d.alloc.parked,
    arbiter := { claims := d.arbiter.claims.map Claim.parked, stack := [] },
    route := { d.route with stopRaised := false }, seq := d.seq.parked,
    notices := d.notices.map NoticeSet.dropPulses, tx := d.tx.mapMembers TxQueue.dropGrants }

/-- Whether the sequencer lets SHUTDOWN end: OFF or LOCKED_OUT (R34). -/
def SeqState.stopped : SeqState → Bool
  | .off | .lockedOut => true
  | .cranking | .running | .cooldown | .stopping => false

/-- The condition of R34 for PARK: in SHUTDOWN, the sequencer OFF or LOCKED_OUT and the write engine idle. -/
def Device.shutdownComplete (d : Device) : Bool :=
  decide (d.mode.mode = .shutdown) && d.seq.state.stopped && !d.nvBusy

/-- The condition of R34 evaluated: at the entry to SHUTDOWN, at each report of a change of sequencer state, and at each
report that the write engine has become idle. -/
def Device.checkPark (d : Device) : Device := if d.shutdownComplete then d.enterPark .shutdownDone 0 else d

end Sys2Proof.Machine
end

