-- ==== Sys2Proof/Machine/EngineSequencer.lean ====
section
/-! DEFINITION. The engine sequencer (sections 6.5 to 6.7, R119 to R131) and the engine policy (R132, R133). -/

namespace Sys2Proof.Machine

/-! ## Records (R134) -/

/-- The subkinds of ENGINE records (R154). -/
inductive EngineEvent where
  | crankFail | lockedOut | abort | stopTimeout | adopted | stall | linkLost | unlocked
  deriving DecidableEq, Repr

/-- The subkind codes of R154. -/
def EngineEvent.code : EngineEvent → Nat
  | .crankFail => 0 | .lockedOut => 1 | .abort => 2 | .stopTimeout => 3 | .adopted => 4 | .stall => 5
  | .linkLost => 6 | .unlocked => 7

/-- An ENGINE record: its subject is the attempt count after the event (R134). -/
def Device.offerEngine (d : Device) (e : EngineEvent) (value1 value2 : Nat) : Device :=
  d.offer ⟨.engine, e.code, d.seq.attempts, value1, value2⟩

/-! ## The engine policy (R133) -/

/-- The policy wants run. -/
def Device.wantsRun (d : Device) : Bool :=
  !d.account.anchored
    || decide (d.account.eBat < d.route.eRes + d.params.eStartOff)
    || (decide (0 < d.params.assistCycles) && decide (d.params.assistCycles ≤ d.alloc.duration))

/-- The run-time timer shows at least t_minrun. -/
def Device.ranEnough (d : Device) : Bool :=
  match d.seq.runTime with
  | some ms => decide (d.params.tMinrun ≤ ms)
  | none => false

/-- The policy wants stop. -/
def Device.wantsStop (d : Device) : Bool :=
  !d.wantsRun && d.account.anchored && decide (d.route.eRes + d.params.eLift ≤ d.account.eBat)
    && (decide (d.seq.state = .running) || decide (d.seq.state = .cooldown)) && d.ranEnough

/-! ## Entering the states -/

/-- A change of sequencer state, with its report to the mode controller (R119). -/
def Device.seqTo (d : Device) (q : Sequencer) : Device := (d.setSeq q).checkPark

/-- The off-dwell's duration at its start: t_minoff, or twice it while ENG_START is worn; 0 is elapsed at once
(R130). -/
def Device.offDwellTimer (d : Device) : Timer :=
  let ms := if d.wear.engStart.state.worn then 2 * d.params.tMinoff else d.params.tMinoff
  if ms = 0 then none else some ms

/-- Into STOPPING: the stop timer runs, the crank, cooldown and run-time timers do not (R124 to R126). -/
def Device.toStopping (d : Device) : Device :=
  d.seqTo { d.seq with
    state := .stopping, crank := none, cool := none, runTime := none, stop := some d.params.tStop, crankTime := 0 }

/-- Into COOLDOWN, or into STOPPING where t_cool is 0 (R125). -/
def Device.toCooldown (d : Device) : Device :=
  if d.params.tCool = 0 then d.toStopping
  else d.seqTo { d.seq with state := .cooldown, cool := some d.params.tCool }

/-- Back from COOLDOWN into RUNNING: the run-time timer keeps counting (R126). -/
def Device.toRunningAgain (d : Device) : Device := d.seqTo { d.seq with state := .running, cool := none }

/-! ## Starting (R121) -/

/-- Cranking is permitted in LIMITED, RUN and HALT (R120). -/
def Mode.permitsCrank : Mode → Bool
  | .limited | .run | .halt => true
  | .park | .waking | .shutdown => false

/-- The modes in which the sequencer acts on the directive and the policy: outside PARK and WAKING (R120). -/
def Mode.directs : Mode → Bool
  | .limited | .run | .halt | .shutdown => true
  | .park | .waking => false

/-- The directive asks for a start: RUN, or POLICY while the policy wants run (R121). -/
def Device.startWanted (d : Device) : Bool :=
  match d.arbiter.directive with
  | .run _ => true
  | .policy => d.wantsRun
  | .stop _ => false

/-- The off-dwell lets a start through: it is elapsed, or a RUN holder of level 2 or 3 passes over it (R121, R130). -/
def Device.dwellPasses (d : Device) : Bool :=
  d.seq.offDwell.isNone
    || (match d.arbiter.directive with
        | .run k => decide (2 ≤ (d.claim k).level)
        | .policy | .stop _ => false)

/-- The start condition of R121. -/
def Device.startCondition (d : Device) : Bool :=
  d.mode.mode.permitsCrank && d.usable .eng && d.startWanted && d.seq.gap.isNone && d.dwellPasses

/-- The start condition evaluated in OFF: CRANKING with the crank timer at t_crank where it holds (R121). -/
def Device.tryStart (d : Device) : Device :=
  if d.seq.state = .off ∧ d.startCondition then
    d.seqTo { d.seq with state := .cranking, crank := some d.params.tCrank, crankTime := 0 }
  else d

/-- An aborted crank: STOPPING, the attempt count and the retry gap as they are, an ENGINE record (R124). -/
def Device.abortCrank (d : Device) (holderCode : Nat) : Device :=
  let spent := d.seq.crankTime
  (d.toStopping).offerEngine .abort holderCode spent

/-! ## The directive (R120, R124 to R127) -/

/-- The directive evaluated in the present state, as at a change of holder (R117, R120, R124 to R127). -/
def Device.followDirective (d : Device) : Device :=
  if !d.mode.mode.directs then d
  else
    match d.seq.state with
    | .off => d.tryStart
    | .cranking =>
      match d.arbiter.directive with
      | .stop k => d.abortCrank k.code
      | .policy | .run _ => if d.mode.mode = .shutdown then d.abortCrank 0 else d
    | .running =>
      match d.arbiter.directive with
      | .stop k => if k.protective then d.toStopping else d.toCooldown
      | .policy => if d.wantsStop then d.toCooldown else d
      | .run _ => d
    | .cooldown =>
      match d.arbiter.directive with
      | .stop k => if k.protective then d.toStopping else d
      | .policy => if d.wantsRun then d.toRunningAgain else d
      | .run _ => d.toRunningAgain
    | .stopping => d
    | .lockedOut => d

/-- The policy check (R121, R125, R126, R132): in OFF the start condition; in RUNNING and COOLDOWN the policy, while the
directive is POLICY. -/
def Device.policyCheck (d : Device) : Device :=
  match d.seq.state with
  | .off => d.tryStart
  | .running | .cooldown =>
    match d.arbiter.directive with
    | .policy => d.followDirective
    | .run _ | .stop _ => d
  | .cranking | .stopping | .lockedOut => d

/-! ## Reports from ENG (R122, R127, R128) -/

/-- The start completes (R122): RUNNING, run-time from 0, attempts 0, the wear of one start, and ENGINE_START offered
with the attempt that succeeded, the holder's kind code and the time spent cranking. -/
def Device.startCompletes (d : Device) : Device :=
  let attempt := d.seq.attempts + 1
  let spent := d.seq.crankTime
  let d := d.seqTo { d.seq with state := .running, crank := none, runTime := some 0, attempts := 0, crankTime := 0 }
  let d := d.feedWear .engStart 1
  d.offer ⟨.engineStart, 0, attempt, d.arbiter.holderCode, spent⟩

/-- Adoption in OFF (R128): RUNNING without a crank; outside PARK and WAKING the directive is then evaluated. -/
def Device.adopt (d : Device) : Device :=
  let d := d.seqTo
    { d.seq with state := .running, runTime := some 0, attempts := 0, gap := none, offDwell := none }
  (d.offerEngine .adopted d.mode.mode.code 0).followDirective

/-- A stall in RUNNING or COOLDOWN (R128): the STALL record with the state left and the run-time in s, OFF, and the
off-dwell started. The record stands before the MODE record of a PARK entry that the report of OFF brings (the model's
choice: log 32). -/
def Device.stall (d : Device) : Device :=
  let left := d.seq.state
  let ran := d.seq.runTime.getD 0 / 1000
  let d := d.offerEngine .stall left.code ran
  d.seqTo { d.seq with state := .off, cool := none, runTime := none, offDwell := d.offDwellTimer }

/-- The stop completes (R127): OFF, the off-dwell started. -/
def Device.stopCompletes (d : Device) : Device :=
  d.seqTo { d.seq with state := .off, stop := none, offDwell := d.offDwellTimer }

/-- An engine state report handed over at arrival (R4, R119, R131). -/
def Device.engineReport (d : Device) (e : EngineState) : Device :=
  let d := d.setSeq { d.seq with engine := e }
  match d.seq.state, e with
  | .off, .running => d.adopt
  | .cranking, .running => d.startCompletes
  | .running, .stopped => d.stall
  | .cooldown, .stopped => d.stall
  | .stopping, .stopped => d.stopCompletes
  | _, _ => d

/-! ## Link loss and timers (R123, R127, R129 to R131) -/

/-- Loss of the ENG link (R129): OFF from any state but LOCKED_OUT; the LINK_LOST record with the state left, none where
it was OFF; the off-dwell started where the engine may have been running. The record stands before the MODE record of a
PARK entry that the report of OFF brings (the model's choice: log 32). -/
def Device.engineLinkLost (d : Device) : Device :=
  let left := d.seq.state
  let off : Sequencer :=
    { d.seq with state := .off, crank := none, cool := none, stop := none, runTime := none, crankTime := 0 }
  match left with
  | .lockedOut | .off => d
  | .cranking => (d.offerEngine .linkLost left.code 0).seqTo off
  | .running | .cooldown | .stopping =>
    (d.offerEngine .linkLost left.code 0).seqTo { off with offDwell := d.offDwellTimer }

/-- The crank timer expires in CRANKING (R123): a failed attempt, into OFF with the retry gap or into LOCKED_OUT with
START_LOCKOUT held at VEH and ENG. -/
def Device.crankFails (d : Device) : Device :=
  let n := d.seq.attempts + 1
  let failed : Sequencer := { d.seq with attempts := n, crank := none, crankTime := 0 }
  if n < d.params.maxAttempts then
    let d := (d.setSeq { failed with state := .off, gap := some d.params.tGap }).offerEngine .crankFail
      d.params.tCrank d.params.maxAttempts
    d.checkPark
  else
    let d := (d.setSeq { failed with state := .lockedOut }).offerEngine .lockedOut d.params.tCrank d.params.maxAttempts
    ((d.raiseHeld .veh .startLockout 0).raiseHeld .eng .startLockout 0).checkPark

/-- The stop timer expires in STOPPING (R127): the record and STOP_TIMEOUT held at VEH and ENG; the timer is not
restarted and STOPPING goes on. -/
def Device.stopTimesOut (d : Device) : Device :=
  let d := (d.setSeq { d.seq with stop := none }).offerEngine .stopTimeout d.params.tStop d.seq.engine.code
  (d.raiseHeld .veh .stopTimeout 0).raiseHeld .eng .stopTimeout 0

/-- ENGINE_UNLOCK in LOCKED_OUT (R131): OFF, attempts 0, retry gap idle, the UNLOCKED record, then the start
condition. -/
def Device.unlockEngine (d : Device) : Device :=
  let d := (d.setSeq { d.seq with state := .off, attempts := 0, gap := none }).offerEngine .unlocked 0 0
  (d.checkPark).tryStart

end Sys2Proof.Machine
end

