-- ==== Sys2Proof/Machine/DirectiveArbiter.lean ====
section
/-! DEFINITION. The engine directive arbiter: claims arriving (R110, R111), leaving (R112 to R116), the CLAIM records
(R118) and the report of a change of holder to the sequencer (R117). -/

namespace Sys2Proof.Machine

/-- The causes of a change of a claim's state (R118). -/
inductive ClaimCause where
  | arrival | preempted | succeeded | resumed | released | lowered | expired | linkLost
  deriving DecidableEq, Repr

/-- The cause codes of R118. -/
def ClaimCause.code : ClaimCause → Nat
  | .arrival => 0 | .preempted => 1 | .succeeded => 2 | .resumed => 3 | .released => 4 | .lowered => 5
  | .expired => 6 | .linkLost => 7

/-- The CLAIM record of a change of state (R118). -/
def claimChange (k : ClaimKind) (old new : ClaimState) (cause : ClaimCause) : Occurrence :=
  ⟨.claim, new.code, k.code, old.code, cause.code⟩

/-! ## The claim table -/

/-- The entry of a kind. -/
def Arbiter.claim (a : Arbiter) (k : ClaimKind) : Claim := a.claims.get k

/-- The table with a kind's entry at a value. -/
def Arbiter.setClaim (a : Arbiter) (k : ClaimKind) (c : Claim) : Arbiter := { a with claims := a.claims.set k c }

/-- A kind's entry in another state, all else kept. -/
def Arbiter.setState (a : Arbiter) (k : ClaimKind) (s : ClaimState) : Arbiter :=
  a.setClaim k { a.claim k with state := s }

/-- The better of two PENDING candidates: the higher level, the earlier in the table at equal levels (R113). -/
def Arbiter.better (a : Arbiter) (best : Option ClaimKind) (k : ClaimKind) : Option ClaimKind :=
  if (a.claim k).state = .pending then
    match best with
    | none => some k
    | some b => if (a.claim b).level < (a.claim k).level then some k else some b
  else best

/-- The highest PENDING claim, ties to the kind that comes first in the table (R113). -/
def Arbiter.highestPending (a : Arbiter) : Option ClaimKind := ClaimKind.all.foldl a.better none

/-- An arbiter after an event, and the CLAIM records of its changes in their order (R118). -/
structure ArbiterStep where
  arbiter : Arbiter
  records : List Occurrence
  deriving DecidableEq, Repr

/-- The arrival of a claim (R110) at a level, with a minimum load and, from IDLE, an age timer. -/
def Arbiter.arrive (a : Arbiter) (k : ClaimKind) (level load : Nat) (age : Timer) : ArbiterStep :=
  let c := a.claim k
  if c.state ≠ .idle then ⟨a.setClaim k { c with load := load }, []⟩
  else
    match a.holder with
    | none =>
      ⟨a.setClaim k ⟨.holding, level, load, age⟩, [claimChange k .idle .holding .arrival]⟩
    | some h =>
      if (a.claim h).level < level then
        let a := (a.setState h .suspended).setClaim k ⟨.holding, level, load, age⟩
        ⟨{ a with stack := h :: a.stack },
          [claimChange h .holding .suspended .preempted, claimChange k .idle .holding .arrival]⟩
      else ⟨a.setClaim k ⟨.pending, level, load, age⟩, [claimChange k .idle .pending .arrival]⟩

/-- A released entry: IDLE, minimum load 0, age timer stopped, the level left as it was taken (R112, R113). -/
def Claim.released (c : Claim) : Claim := { c with state := .idle, load := 0, age := none }

/-- The choice of a successor when the holder has gone (R113). -/
def Arbiter.succeed (a : Arbiter) : ArbiterStep :=
  match a.stack, a.highestPending with
  | [], none => ⟨a, []⟩
  | [], some p => ⟨a.setState p .holding, [claimChange p .pending .holding .succeeded]⟩
  | t :: ts, none =>
    ⟨{ a.setState t .holding with stack := ts }, [claimChange t .suspended .holding .resumed]⟩
  | t :: ts, some p =>
    if (a.claim t).level < (a.claim p).level then
      ⟨a.setState p .holding, [claimChange p .pending .holding .succeeded]⟩
    else ⟨{ a.setState t .holding with stack := ts }, [claimChange t .suspended .holding .resumed]⟩

/-- The release of a claim by a cause (R112, R113); an IDLE claim is not there to release. -/
def Arbiter.release (a : Arbiter) (k : ClaimKind) (cause : ClaimCause) : ArbiterStep :=
  let c := a.claim k
  match c.state with
  | .idle => ⟨a, []⟩
  | .pending => ⟨a.setClaim k c.released, [claimChange k .pending .idle cause]⟩
  | .suspended =>
    ⟨{ a.setClaim k c.released with stack := a.stack.filter fun j => decide (j ≠ k) },
      [claimChange k .suspended .idle cause]⟩
  | .holding =>
    let next := (a.setClaim k c.released).succeed
    ⟨next.arbiter, claimChange k .holding .idle cause :: next.records⟩

/-- The claims of a port that stand in one of some states, in table order. -/
def Arbiter.ownedIn (a : Arbiter) (p : Port) (holding : Bool) : List ClaimKind :=
  ClaimKind.all.filter fun k =>
    decide (k.owner = some p)
      && (if holding then decide ((a.claim k).state = .holding)
          else decide ((a.claim k).state = .pending) || decide ((a.claim k).state = .suspended))

/-- Releases in turn, their records joined. -/
def Arbiter.releaseAll (a : Arbiter) (cause : ClaimCause) : List ClaimKind → ArbiterStep
  | [] => ⟨a, []⟩
  | k :: ks =>
    let one := a.release k cause
    let rest := one.arbiter.releaseAll cause ks
    ⟨rest.arbiter, one.records ++ rest.records⟩

/-- The drop of every claim of a port whose link is lost: the waiting ones first, in table order, then the holder
(R116). -/
def Arbiter.dropPort (a : Arbiter) (p : Port) : ArbiterStep :=
  a.releaseAll .linkLost (a.ownedIn p false ++ a.ownedIn p true)

/-! ## The arbiter in the part -/

/-- An arbiter event in the part: its records are offered in order, and a change of holder is reported to the
sequencer, which acts on the directive (R117, R118, R120). -/
def Device.applyArbiter (d : Device) (step : ArbiterStep) : Device :=
  let before := d.arbiter.holder
  let d := ({ d with arbiter := step.arbiter }).offerAll step.records
  if step.arbiter.holder = before then d else d.followDirective

/-- The age timer of a claim at its arrival: the limit in ms, idle where there is none (R115). -/
def Device.ageTimer (d : Device) (k : ClaimKind) : Timer :=
  let s := d.params.ageLimit k
  if s = 0 then none else some (seconds s)

/-- A claim arrives in the part (R110, R115). -/
def Device.arrive (d : Device) (k : ClaimKind) (load : Nat) : Device :=
  d.applyArbiter (d.arbiter.arrive k (d.params.claimLevel k) load (d.ageTimer k))

/-- A claim is released in the part by a cause (R112, R113). -/
def Device.releaseClaim (d : Device) (k : ClaimKind) (cause : ClaimCause) : Device :=
  d.applyArbiter (d.arbiter.release k cause)

/-- The claims of a lost port are dropped (R116). -/
def Device.dropClaims (d : Device) (p : Port) : Device := d.applyArbiter (d.arbiter.dropPort p)

/-- ZONE_STOP follows its condition outside PARK (R104, R105, R111): raised when it starts to hold, lowered when it
stops. -/
def Device.evalZoneStop (d : Device) : Device :=
  let holds := stopCondition d.params d.dRouteM d.route.zones
  if d.mode.mode = .park then d
  else if d.route.stopRaised = holds then d
  else
    let d := { d with route := { d.route with stopRaised := holds } }
    if holds then d.arrive .zoneStop 0 else d.releaseClaim .zoneStop .lowered

/-- KEY_OFF_STOP raised by the mode controller, unless it is raised already (R32, R111). -/
def Device.raiseKeyOff (d : Device) : Device :=
  if d.mode.keyOffRaised then d
  else ({ d with mode := { d.mode with keyOffRaised := true } }).arrive .keyOffStop 0

/-- KEY_OFF_STOP lowered, if it is raised (R34, R111). -/
def Device.lowerKeyOff (d : Device) : Device :=
  if d.mode.keyOffRaised then
    ({ d with mode := { d.mode with keyOffRaised := false } }).releaseClaim .keyOffStop .lowered
  else d

end Sys2Proof.Machine
end

