-- ==== Sys2Proof/Machine/ModeController.lean ====
section
/-! DEFINITION. The mode controller (chapter 2): the entries to the modes, the door conditions of R29 to R31, the
reports of link states (R26 to R28, R33) and of the account (R27), and the expiries of its timers. -/

namespace Sys2Proof.Machine

/-- A member link is ALIGNED. -/
def Device.aligned (d : Device) (m : Member) : Bool := decide ((d.link m).state = .aligned)

/-- All five member links are ALIGNED (R27). -/
def Device.allAligned (d : Device) : Bool := Member.all.all d.aligned

/-- The weights 2^(n-1) of the member ports whose link is in a state (R24, R26). -/
def Device.portsIn (d : Device) (s : LinkState) : Nat :=
  (Member.all.map fun m => if (d.link m).state = s then 2 ^ (m.number - 1) else 0).sum

/-- A door is open: the line reads OPEN or the effective door flag is OPEN (R29). -/
def Device.doorOpen (d : Device) : Bool := d.doorLine || d.effDoor

/-- The detail of DOOR_OPEN: 1 for the line, 2 for the flag, 3 for both (R24). -/
def Device.doorDetail (d : Device) : Nat := (if d.doorLine then 1 else 0) + (if d.effDoor then 2 else 0)

/-- The three exit conditions of HALT (R30). -/
def Device.haltExit (d : Device) : Bool := !d.doorLine && !d.effDoor && !d.effPark

/-- The condition of R26: VEH and TRC ALIGNED, and BAT or ENG or both. -/
def Device.linksReady (d : Device) : Bool :=
  d.aligned .veh && d.aligned .trc && (d.aligned .bat || d.aligned .eng)

/-- The LIMITED dwell at its end (R27). -/
def dwellTop : Nat := 50

/-- The condition of R27. -/
def Device.runReady (d : Device) : Bool :=
  d.allAligned && decide (d.mode.dwell = dwellTop) && d.account.anchored

/-- The modes in which the bus may be driven: LIMITED and RUN (R29). -/
def Mode.drives : Mode → Bool
  | .limited | .run => true
  | .park | .waking | .halt | .shutdown => false

/-- The modes that key-off or VEH sleep ends: WAKING, LIMITED, RUN and HALT (R32, R33). -/
def Mode.isAwake : Mode → Bool
  | .waking | .limited | .run | .halt => true
  | .park | .shutdown => false

/-! ## Entries -/

/-- HALT entered from LIMITED or RUN, which becomes the HALT origin; the sequencer hears of the mode (R29, R120). -/
def Device.enterHalt (d : Device) (origin : HaltOrigin) : Device :=
  let d := d.changeMode .halt .doorOpen d.doorDetail
  (d.setMode { d.mode with origin := some origin }).followDirective

/-- The condition of R29 in LIMITED or RUN. -/
def Device.checkDoorOpen (d : Device) : Device :=
  if d.doorOpen then
    match d.mode.mode with
    | .limited => d.enterHalt .limited
    | .run => d.enterHalt .run
    | .park | .waking | .halt | .shutdown => d
  else d

/-- RUN entered; a door found open gives HALT at once (R29, R120). -/
def Device.enterRun (d : Device) (cause : ModeCause) : Device :=
  ((d.changeMode .run cause 0).followDirective).checkDoorOpen

/-- The condition of R27 evaluated. -/
def Device.checkRunReady (d : Device) : Device :=
  if d.mode.mode = .limited ∧ d.runReady then d.enterRun .runReady else d

/-- LIMITED entered with a dwell; a door found open gives HALT at once (R27, R29, R120). -/
def Device.enterLimited (d : Device) (cause : ModeCause) (detail dwell : Nat) : Device :=
  let d := d.changeMode .limited cause detail
  let d := (d.setMode { d.mode with dwell := dwell }).followDirective
  (d.checkDoorOpen).checkRunReady

/-- WAKING entered (R23, R25, R37, R132): the wake, allocation and policy check timers start, XCVR_WAKE becomes active,
and the ZONE_STOP condition is evaluated. -/
def Device.enterWaking (d : Device) (cause : ModeCause) (detail : Nat) : Device :=
  let d := d.changeMode .waking cause detail
  let d :=
    { d with
      mode := { d.mode with wake := some msWake, xcvrWake := true },
      alloc := { d.alloc with timer := some msAllocation },
      seq := { d.seq with policy := some msPolicy } }
  d.evalZoneStop

/-- SHUTDOWN entered (R32, R33, R120): KEY_OFF_STOP is raised, the shutdown timer starts, the wake and door agreement
timers and the HALT origin go, the sequencer hears of the mode, and the condition of R34 is evaluated (order: log 12). -/
def Device.enterShutdown (d : Device) (cause : ModeCause) (detail : Nat) : Device :=
  let d := d.changeMode .shutdown cause detail
  let d := d.setMode { d.mode with shutdown := some msShutdown, wake := none, doorAgree := none, origin := none }
  ((d.raiseKeyOff).followDirective).checkPark

/-! ## Door conditions (R21, R29 to R31) -/

/-- The door agreement timer in HALT: started where the exit conditions all hold and it is idle, stopped where one
fails (R30). -/
def Device.evalDoorAgree (d : Device) : Device :=
  if d.mode.mode = .halt then
    if d.haltExit then
      if d.mode.doorAgree.isNone then d.setMode { d.mode with doorAgree := some msDoorAgree } else d
    else d.setMode { d.mode with doorAgree := none }
  else d

/-- The door disagreement timer outside PARK: started at a disagreement not yet reported, stopped with the mark cleared
at an agreement (R31). -/
def Device.evalDoorDisagree (d : Device) : Device :=
  if d.mode.mode = .park then d
  else if d.doorLine = d.effDoor then d.setMode { d.mode with doorDisagree := none, reported := false }
  else if d.mode.doorDisagree.isNone ∧ d.mode.reported = false then
    d.setMode { d.mode with doorDisagree := some msDoorDisagree }
  else d

/-- The door conditions, evaluated at each event that re-forms the effective flags (R21). -/
def Device.doorEvents (d : Device) : Device := ((d.checkDoorOpen).evalDoorAgree).evalDoorDisagree

/-! ## Reports -/

/-- The flags of an accepted VEH STATUS frame (R4, R21, R33). -/
def Device.vehFlags (d : Device) (f : VehFlags) : Device :=
  let d := (d.setMode { d.mode with flags := some f }).doorEvents
  if d.mode.mode.isAwake ∧ d.mode.ignition = false ∧ f.wake = false then d.enterShutdown .vehSleep 0 else d

/-- A link that cannot be used: SILENT, ALIGNING or LOST (R28). -/
def Device.down (d : Device) (m : Member) : Bool := !d.usable m

/-- The condition of R28 for a link that has just become unusable by a loss or a RESYNC. -/
def Device.linkDownCondition (d : Device) : Member → Bool
  | .veh => d.down .veh
  | .trc => d.down .trc
  | .bat => d.down .bat && d.down .eng
  | .eng => d.down .eng && d.down .bat
  | .brk => false

/-- What a change of a link's state came from (R28, R33). -/
inductive LinkChange where
  | loss | resync | other
  deriving DecidableEq, Repr

/-- A report of a change of a member link's state to the mode controller (R21, R26 to R28, R33). -/
def Device.linkReport (d : Device) (m : Member) (change : LinkChange) : Device :=
  let d := if m = .veh then d.doorEvents else d
  if m = .veh ∧ change = .loss ∧ d.mode.ignition = false ∧ d.mode.mode.isAwake then
    d.enterShutdown .linkDown m.number
  else
    match d.mode.mode with
    | .waking =>
      if d.linksReady then
        (d.setMode { d.mode with wake := none }).enterLimited .linksReady (d.portsIn .aligned) 0
      else d
    | .limited => d.checkRunReady
    | .run =>
      if change ≠ .other ∧ d.linkDownCondition m then d.enterLimited .linkDown m.number 0 else d
    | .park | .halt | .shutdown => d

/-! ## Expiries of the mode controller's timers -/

/-- The debounced ignition takes the line's reading, and the mode controller acts on it (R20, R25, R32, R34). -/
def Device.ignitionExpiry (d : Device) : Device :=
  let d := d.setMode { d.mode with debounce := none, ignition := d.ignLine }
  match d.mode.ignition, d.mode.mode with
  | true, .park => d.enterWaking .ignitionOn 0
  | true, .shutdown =>
    let d := d.lowerKeyOff
    (d.setMode { d.mode with shutdown := none }).enterLimited .ignitionOn 0 0
  | false, .waking => d.enterShutdown .ignitionOff 0
  | false, .limited => d.enterShutdown .ignitionOff 0
  | false, .run => d.enterShutdown .ignitionOff 0
  | false, .halt => d.enterShutdown .ignitionOff 0
  | _, _ => d

/-- The wake timer expires in WAKING: one WAKE_SLOW record, the timer not restarted (R26). -/
def Device.wakeSlow (d : Device) : Device :=
  let d := d.setMode { d.mode with wake := none }
  d.offer ⟨.mode, subkindWakeSlow, 0, d.portsIn .aligned, d.portsIn .silent⟩

/-- The door agreement timer expires: HALT is left for RUN or LIMITED by its origin, with the dwell kept (R30). -/
def Device.leaveHalt (d : Device) : Device :=
  let ready := d.allAligned && d.account.anchored
  let toRun :=
    match d.mode.origin with
    | some .run => ready
    | some .limited | none => ready && decide (d.mode.dwell = dwellTop)
  let d := d.setMode { d.mode with doorAgree := none, origin := none }
  if toRun then d.enterRun .doorClosed else d.enterLimited .doorClosed 0 d.mode.dwell

/-- The door disagreement timer expires: the pulse at VEH, the record with the line and the effective flag, and the
mark (R31). -/
def Device.reportDisagree (d : Device) : Device :=
  let d := d.setMode { d.mode with doorDisagree := none, reported := true }
  let d := d.raisePulse .veh .doorDisagree
  d.offer ⟨.mode, subkindDoorDisagree, 0, d.doorLine.toNat, d.effDoor.toNat⟩

/-- The shutdown timer expires: PARK with the sequencer state, plus 256 where the write engine is not idle (R24,
R34). -/
def Device.shutdownExpires (d : Device) : Device :=
  d.enterPark .shutdownLimit (d.seq.state.code + (if d.nvBusy then 256 else 0))

end Sys2Proof.Machine
end

