-- ==== Sys2Proof/Machine/RouteZones.lean ====
section
/-! DEFINITION. The route odometer and the zone queue (sections 5.2 to 5.7, R89 to R105). -/

namespace Sys2Proof.Machine

/-! ## The reserve (R101 to R103) -/

/-- A zone's estimate in J raised by the margin m/256 (R102). -/
def raisedEstimate (t : ParamTable) (z : Zone) : Nat := z.estimate * 10000 * (256 + t.margin) / 256

/-- An entry's contribution to the reserve at a distance in m (R102). -/
def contribution (t : ParamTable) (dM : Nat) (z : Zone) : Nat :=
  match z.kind with
  | .quiet => 0
  | .emissionFree =>
    if z.inside then raisedEstimate t z * (z.start + z.length - dM) / z.length
    else if z.start - dM ≤ t.lAhead then raisedEstimate t z
    else 0

/-- The reserve E_res (R102). -/
def reserve (t : ParamTable) (dM : Nat) (zs : List Zone) : Nat :=
  min (t.eFloor + (zs.map (contribution t dM)).sum) t.eCap

/-- The state with the route at a value. -/
def Device.setRoute (d : Device) (r : Route) : Device := { d with route := r }

/-- E_res recomputed (R103). -/
def Device.recomputeReserve (d : Device) : Device :=
  d.setRoute { d.route with eRes := reserve d.params d.dRouteM d.route.zones }

/-! ## Records and notices (R93, R94) -/

/-- The subkinds of ZONE records (R154). -/
inductive ZoneEvent where
  | added | replaced | dropped | entered | passed | cancelled | routeReset
  deriving DecidableEq, Repr

/-- The subkind codes of R154. -/
def ZoneEvent.code : ZoneEvent → Nat
  | .added => 0 | .replaced => 1 | .dropped => 2 | .entered => 3 | .passed => 4 | .cancelled => 5 | .routeReset => 6

/-- A ZONE record of an entry, value1 its start and value2 its length (R94). -/
def zoneRecord (e : ZoneEvent) (z : Zone) : Occurrence := ⟨.zone, e.code, z.id, z.start, z.length⟩

/-- The state with the queue at a list of entries. -/
def Device.setZones (d : Device) (zs : List Zone) : Device := { d with route := { d.route with zones := zs } }

/-- An entry becomes INSIDE: ZONE_ENTERED at VEH and the ENTERED record (R93, R94). -/
def Device.noteEntered (d : Device) (z : Zone) : Device :=
  (d.raisePulse .veh .zoneEntered).offer (zoneRecord .entered z)

/-- ZONE_LEFT at VEH where an entry of a kind has gone and none of the kind is INSIDE any more (R93). -/
def Device.noteLeft (d : Device) (kind : ZoneKind) (wasInside : Bool) (zs : List Zone) : Device :=
  if wasInside ∧ insideOf kind zs = false then d.raisePulse .veh .zoneLeft else d

/-- The end of any change to the entries: E_res, then the ZONE_STOP condition (R103, R104). -/
def Device.afterZones (d : Device) : Device := (d.recomputeReserve).evalZoneStop

/-! ## Order and places (R91) -/

/-- An entry placed after every entry whose start is less than or equal to its own (R91). -/
def placeZone (z : Zone) : List Zone → List Zone
  | [] => [z]
  | e :: es => if e.start ≤ z.start then e :: placeZone z es else z :: e :: es

/-- The places of the queue (R91). -/
def zonePlaces : Nat := 8

/-- The entry with an id. -/
def findZone (id : Nat) (zs : List Zone) : Option Zone := zs.find? fun z => decide (z.id = id)

/-- The queue without the entry with an id. -/
def removeZone (id : Nat) (zs : List Zone) : List Zone := zs.filter fun z => decide (z.id ≠ id)

/-! ## Evaluation (R92) -/

/-- The entries evaluated in queue order against the new distance: `done` are those already evaluated and kept. Each
entry's state, records and notices are taken before the next entry's (R92 to R94; log 13). -/
def Device.evalEntries (d : Device) (dM : Nat) (done : List Zone) : List Zone → Device
  | [] => d.setZones done
  | z :: zs =>
    let enters := !z.inside && decide (z.start ≤ dM)
    let z' := { z with inside := z.inside || enters }
    let d := if enters then d.noteEntered z' else d
    if z'.inside && decide (z.start + z.length ≤ dM) then
      ((d.offer (zoneRecord .passed z')).noteLeft z.kind true (done ++ zs)).evalEntries dM done zs
    else d.evalEntries dM (done ++ [z']) zs

/-- The odometer's advance by an accepted VEH frame's increment; a change of D_route_m evaluates the queue (R89). -/
def Device.advance (d : Device) (cm : Nat) : Device :=
  let before := d.dRouteM
  let d := { d with route := { d.route with dRoute := satAdd max32 d.route.dRoute cm } }
  if d.dRouteM = before then d else (d.evalEntries d.dRouteM [] d.route.zones).afterZones

/-! ## Requests (R95 to R100) -/

/-- The entry of a request, INSIDE when its start is at or behind the distance (R97, R98). -/
def newZone (id : Nat) (kind : ZoneKind) (start length estimate dM : Nat) : Zone :=
  { id := id, kind := kind, start := start, length := length, estimate := estimate, inside := decide (start ≤ dM) }

/-- The replacement of an entry with the same id (R97). -/
def Device.replaceZone (d : Device) (old new : Zone) : Device :=
  let zs := placeZone new (removeZone old.id d.route.zones)
  let d := (d.setZones zs).offer ⟨.zone, ZoneEvent.replaced.code, new.id, new.start, old.start⟩
  let enters := new.inside && (!old.inside || decide (old.kind ≠ new.kind))
  let d := if enters then d.noteEntered new else d
  (d.noteLeft old.kind old.inside zs).afterZones

/-- The insertion of an entry into a queue with room (R98). -/
def Device.insertZone (d : Device) (new : Zone) : Device :=
  let d := (d.setZones (placeZone new d.route.zones)).offer (zoneRecord .added new)
  (if new.inside then d.noteEntered new else d).afterZones

/-- The drop of the last entry to make room (R98). -/
def Device.dropLast (d : Device) (last : Zone) : Device :=
  let zs := d.route.zones.dropLast
  ((d.setZones zs).offer (zoneRecord .dropped last)).noteLeft last.kind last.inside zs

/-- What a ZONE_ADD that passed its field checks comes to (R96 to R98). -/
inductive ZoneAddPlan where
  | passed
  | replaced (old : Zone)
  | inserted
  | displaced (last : Zone)
  | full
  deriving DecidableEq, Repr

/-- The first of R96, R97 and R98 that applies. -/
def zoneAddPlan (dM : Nat) (zs : List Zone) (new : Zone) : ZoneAddPlan :=
  if new.start + new.length ≤ dM then .passed
  else
    match findZone new.id zs with
    | some old => .replaced old
    | none =>
      if zs.length < zonePlaces then .inserted
      else
        match zs.getLast? with
        | some last => if new.start < last.start then .displaced last else .full
        | none => .inserted

/-- The effect of a plan on the queue. -/
def Device.applyZoneAdd (d : Device) (new : Zone) : ZoneAddPlan → Device
  | .passed => d
  | .replaced old => d.replaceZone old new
  | .inserted => d.insertZone new
  | .displaced last => (d.dropLast last).insertZone new
  | .full => d

/-- The removal of an entry by ZONE_CANCEL (R99). -/
def Device.cancelZone (d : Device) (z : Zone) : Device :=
  let zs := removeZone z.id d.route.zones
  (((d.setZones zs).offer (zoneRecord .cancelled z)).noteLeft z.kind z.inside zs).afterZones

/-- ROUTE_RESET: the odometer at 0, the queue empty, one record with the old distance and the number of entries, and
ZONE_LEFT if any entry was INSIDE; E_res and ZONE_STOP follow (R100). -/
def Device.resetRoute (d : Device) : Device :=
  let before := d.dRouteM
  let zs := d.route.zones
  let d := { d with route := { d.route with dRoute := 0, zones := [] } }
  let d := d.offer ⟨.zone, ZoneEvent.routeReset.code, 0, before, zs.length⟩
  (if zs.any (·.inside) then d.raisePulse .veh .zoneLeft else d).afterZones

end Sys2Proof.Machine
end

