-- ==== Sys2Proof/Machine/EnergyAccount.lean ====
section
/-! DEFINITION. The energy account (section 5.1, R83 to R88). -/

namespace Sys2Proof.Machine

/-- The subkinds of ACCOUNT records (R154). -/
inductive AccountEvent where
  | anchor | drift | unanchor
  deriving DecidableEq, Repr

/-- The subkind codes of R154. -/
def AccountEvent.code : AccountEvent → Nat
  | .anchor => 0 | .drift => 1 | .unanchor => 2

/-- The reported energy E_rep = min(E_bms × 10,000, E_cap) (R83). -/
def reportedEnergy (t : ParamTable) (eBms : Nat) : Nat := min (eBms * 10000) t.eCap

/-- The integrated value E_int = clamp(E_bat − P_bmeas, 0, E_cap) (R85). -/
def integrated (t : ParamTable) (eBat : Nat) (pMeas : Int) : Nat := (clampInt (eBat - pMeas) 0 t.eCap).toNat

/-- Whether E_int and E_rep differ by more than E_drift (R86). -/
def drifts (t : ParamTable) (eInt eRep : Nat) : Bool := decide (t.eDrift < (eInt - eRep) + (eRep - eInt))

/-- The state with E_bat at a value. -/
def Device.setEnergy (d : Device) (e : Nat) : Device := { d with account := { d.account with eBat := e } }

/-- An ACCOUNT record (R84, R86, R87). -/
def Device.offerAccount (d : Device) (e : AccountEvent) (value1 value2 : Nat) : Device :=
  d.offer ⟨.account, e.code, 0, value1, value2⟩

/-- An accepted BAT STATUS frame (R84 to R86): it anchors an UNANCHORED account, is integrated into an ANCHORED one, and
re-anchors it where the two energies have drifted apart. -/
def Device.accountFrame (d : Device) (pMeas : Int) (eBms : Nat) : Device :=
  let old := d.account.eBat
  let eRep := reportedEnergy d.params eBms
  if d.account.anchored then
    let eInt := integrated d.params old pMeas
    if drifts d.params eInt eRep then
      ((d.setEnergy eRep).offerAccount .drift eInt eRep).raisePulse .bat .drift
    else d.setEnergy eInt
  else
    let d := { d with account := ⟨true, eRep⟩ }
    (d.offerAccount .anchor old eRep).checkRunReady

/-- Loss of the BAT link: an ANCHORED account becomes UNANCHORED, E_bat kept (R87). -/
def Device.unanchor (d : Device) : Device :=
  if d.account.anchored then
    let d := { d with account := { d.account with anchored := false } }
    (d.offerAccount .unanchor d.account.eBat 0).checkRunReady
  else d

/-- A change of E_cap: E_bat is lowered to it where it exceeds it (R88). -/
def Device.capEnergy (d : Device) : Device := d.setEnergy (min d.account.eBat d.params.eCap)

end Sys2Proof.Machine
end

