-- ==== Sys2Proof/Machine/MemberLinks.lean ====
section
/-! DEFINITION. The member link controllers (chapter 1): bad frames (R2), judging and acceptance (R3 to R6, R8, R11),
takes (R7, R9, R15), loss (R10) and RESYNC (R13). -/

namespace Sys2Proof.Machine

/-! ## One link -/

/-- An event of R14: freeze set, the clean-run count 0. -/
def Link.setFreeze (l : Link) : Link := { l with freeze := true, cleanRun := 0 }

/-- The accepted count set to 0 in ALIGNING, by a bad STATUS frame or a sequence error (R2, R3, R8). -/
def Link.spoilAligning (l : Link) : Link := if l.state = .aligning then { l with accepted := 0 } else l

/-- A bad STATUS frame's effect, past the check error count (R2). -/
def Link.badStatus (l : Link) : Link := (l.setFreeze).spoilAligning

/-- One more check error (R2). -/
def Link.countCheck (l : Link) : Link :=
  { l with counters := { l.counters with check := satInc max16 l.counters.check } }

/-- How a STATUS frame is judged by its alive counter (R3). -/
inductive Judgement where
  | duplicate | good | gap | sequenceError
  deriving DecidableEq, Repr

/-- The alive delta: the frame's counter, minus the expected value, plus 1, modulo 16 (R3). -/
def aliveDelta (alive expected : BitVec 4) : BitVec 4 := alive - expected + 1

/-- The judgement of R3; an absent expected value judges every frame good. -/
def judge (expected : Option (BitVec 4)) (alive : BitVec 4) : Judgement :=
  match expected with
  | none => .good
  | some e =>
    let delta := aliveDelta alive e
    if delta = 0 then .duplicate
    else if delta = 1 then .good
    else if delta = 2 ∨ delta = 3 then .gap
    else .sequenceError

/-- The expected alive value after an accepted frame and after a sequence error (R3). -/
def Link.expect (l : Link) (alive : BitVec 4) : Link := { l with expected := some (alive + 1) }

/-- A sequence error (R3). -/
def Link.sequenceError (l : Link) (alive : BitVec 4) : Link :=
  let l : Link := { l with counters := { l.counters with sequence := satInc max16 l.counters.sequence } }
  ((l.setFreeze).spoilAligning).expect alive

/-- A frame accepted with a gap: the gap count, freeze (R3). -/
def Link.gap (l : Link) : Link :=
  ({ l with counters := { l.counters with gaps := satInc max16 l.counters.gaps } }).setFreeze

/-- The store depth: DIRECT 1, ELASTIC 2 (R6). -/
def storeDepth (direct : Bool) : Nat := if direct then 1 else 2

/-- Skips: while the list holds as many frames as the depth or more, the oldest is discarded, a skip counted and freeze
set (R6). -/
def Link.skipTo (l : Link) (depth : Nat) : Link :=
  let excess := l.unread.length + 1 - depth
  if excess = 0 then l
  else
    ({ l with
        unread := l.unread.drop excess,
        counters := { l.counters with skips := satAdd max16 l.counters.skips excess } }).setFreeze

/-- A frame appended to the alignment store, after the skips that make room (R6). -/
def Link.appendFrame (l : Link) (depth : Nat) (f : Stored) : Link :=
  let l := l.skipTo depth
  { l with unread := l.unread ++ [f] }

/-- A take in ALIGNED or SUSPECT that finds an unread frame (R7, R15). -/
def Link.freshTake (l : Link) (f : Stored) (rest : List Stored) : Link :=
  let l : Link := { l with unread := rest, taken := some f, missRun := 0 }
  let l : Link := if l.state = .suspect then { l with recovery := l.recovery + 1 } else l
  if l.freeze then
    if 20 ≤ l.cleanRun + 1 then { l with freeze := false, cleanRun := 0 } else { l with cleanRun := l.cleanRun + 1 }
  else l

/-- A take in ALIGNED or SUSPECT that finds the list empty (R7). -/
def Link.repeatTake (l : Link) : Link :=
  let l : Link := { l with
    missRun := l.missRun + 1, recovery := if l.state = .suspect then 0 else l.recovery,
    counters := { l.counters with repeats := satInc max16 l.counters.repeats } }
  l.setFreeze

/-- The take of one link, ahead of the change of state it causes (R7). -/
def Link.take (l : Link) : Link :=
  match l.state, l.unread with
  | .aligned, f :: rest => l.freshTake f rest
  | .suspect, f :: rest => l.freshTake f rest
  | .aligned, [] => l.repeatTake
  | .suspect, [] => l.repeatTake
  | .aligning, f :: rest => { l with unread := rest, taken := some f }
  | .aligning, [] => l
  | .silent, _ => l
  | .lost, _ => l

/-- The change of state that a take causes (R9, R10). -/
inductive TakeChange where
  | none | suspect | aligned | lost
  deriving DecidableEq, Repr

/-- The change a taken link's counts call for (R9). -/
def Link.takeChange (l : Link) : TakeChange :=
  match l.state with
  | .aligned => if 3 ≤ l.missRun then .suspect else .none
  | .suspect => if 10 ≤ l.missRun then .lost else if 2 ≤ l.recovery then .aligned else .none
  | .silent | .aligning | .lost => .none

/-- A link on entry to LOST: emptied, its expected value absent, its run counts 0, freeze kept, one more loss (R10). -/
def Link.lose (l : Link) : Link :=
  { l with
    state := .lost, unread := [], taken := none, expected := none, missRun := 0, recovery := 0, accepted := 0,
    counters := { l.counters with losses := satInc max16 l.counters.losses } }

/-- A link on entry to ALIGNED from ALIGNING (R8, R15). -/
def Link.align (l : Link) : Link :=
  { l with
    state := .aligned, freeze := false, cleanRun := 0, missRun := 0, recovery := 0, accepted := 0 }

/-- A link on entry to ALIGNING by a RESYNC: emptied, its expected value absent, its run counts 0, freeze, clean run and
counters kept (R13). -/
def Link.resynced (l : Link) : Link :=
  { l with
    state := .aligning, unread := [], taken := none, expected := none, accepted := 0, missRun := 0, recovery := 0 }

/-- A link on entry to ALIGNING at its first accepted frame, with an empty store and the accepted count at 1 (R8,
R11). -/
def Link.firstFrame (l : Link) : Link := { l with state := .aligning, unread := [], accepted := 1 }

/-! ## Links in the part -/

/-- The LINK record of a change of state: subkind the new state, subject the port, value1 the previous state (R10). -/
def linkRecord (m : Member) (old new : LinkState) : Occurrence := ⟨.link, new.code, m.number, old.code, 0⟩

/-- A link takes a new value in another state: its LINK record (R10). -/
def Device.moveLink (d : Device) (m : Member) (l : Link) : Device :=
  let old := (d.link m).state
  (d.setLink m l).offer (linkRecord m old l.state)

/-- The ENG link controller's report of a change of its state, other than a loss, to the sequencer (R119, R121). -/
def Device.engineLinkReport (d : Device) (m : Member) : Device := if m = .eng then d.tryStart else d

/-- A change of a link's state that is no loss: the LINK record, the report to the mode controller, and for ENG the
report to the sequencer (R10, R26, R119). -/
def Device.changeLink (d : Device) (m : Member) (l : Link) (change : LinkChange) : Device :=
  ((d.moveLink m l).linkReport m change).engineLinkReport m

/-- The entry to LOST: the LINK record, LINK_LOST at VEH with the port, and the reports to the mode controller, the
account, the arbiter and the sequencer in that order (R10; log 8). -/
def Device.loseLink (d : Device) (m : Member) : Device :=
  let d := d.moveLink m (d.link m).lose
  let d := d.raiseHeld .veh .linkLost (subjectBit m.number)
  let d := d.linkReport m .loss
  let d := if m = .bat then d.unanchor else d
  let d := d.dropClaims m.port
  if m = .eng then d.engineLinkLost else d

/-- The take of one member port, with the change of state it causes (R7, R9, R10). -/
def Device.takeOne (d : Device) (m : Member) : Device :=
  let l := (d.link m).take
  let d := d.setLink m l
  match l.takeChange with
  | .none => d
  | .suspect => d.changeLink m { l with state := .suspect, recovery := 0 } .other
  | .aligned => d.changeLink m { l with state := .aligned, recovery := 0 } .other
  | .lost => d.loseLink m

/-- The takes of an allocation cycle, in port-number order (R7, R38; log 9). -/
def Device.takeAll (d : Device) : Device := Member.all.foldl Device.takeOne d

/-- An accepted frame handed to its owners, in the order of the table of R4 (log 8). -/
def Device.handOff (d : Device) : Status → Device
  | .veh wake door park _ dist => (d.advance dist).vehFlags ⟨door, park, wake⟩
  | .eng _ state _ =>
    let d := d.engineReport state
    if state = .running then d.feedWear .engRun 1 else d
  | .bat _ _ _ pMeas eBms => (d.accountFrame pMeas eBms).feedWear .batThru pMeas.natAbs
  | .trc .. => d
  | .brk _ _ _ _ _ appF appR => (d.feedWear .liningF appF).feedWear .liningR appR

/-- The accepted count after a frame stored in ALIGNING; at 8 the link is ALIGNED (R8). The frame has then been handed to its
owners and stored, so the entry clears a freeze that its skip set (the model's choice: log 34). -/
def Device.countAccepted (d : Device) (m : Member) : Device :=
  let l := d.link m
  if l.state = .aligning then
    let l : Link := { l with accepted := l.accepted + 1 }
    if 8 ≤ l.accepted then d.changeLink m l.align .other else d.setLink m l
  else d

/-- An accepted frame (R4, R6, R8, R11): a SILENT or LOST link enters ALIGNING, the frame goes to its owners, then into
the store, and counts in ALIGNING; R11 gives this order for LOST, and for SILENT and for the eighth frame it is the model's
choice (log 34). Where the hand-off has brought the part into PARK, the link is SILENT and empty and
stays so (log 10). -/
def Device.accept (d : Device) (m : Member) (alive : BitVec 4) (s : Status) : Device :=
  let first := decide ((d.link m).state = .silent) || decide ((d.link m).state = .lost)
  let asleep := decide (d.mode.mode = .park)
  let d := d.setLink m ((d.link m).expect alive)
  let d := if first then d.changeLink m (d.link m).firstFrame .other else d
  let d := d.handOff s
  if !asleep && decide (d.mode.mode = .park) then d
  else
    let depth := storeDepth (d.params.storeDirect m.number)
    let d := d.setLink m ((d.link m).appendFrame depth ⟨alive, s⟩)
    if first then d else d.countAccepted m

/-- A STATUS frame judged and carried out outside PARK (R3). -/
def Device.judged (d : Device) (m : Member) (alive : BitVec 4) (s : Status) : Device :=
  match judge (d.link m).expected alive with
  | .duplicate => d
  | .good => d.accept m alive s
  | .gap => (d.setLink m (d.link m).gap).accept m alive s
  | .sequenceError => d.setLink m ((d.link m).sequenceError alive)

/-- In LOST with COMMANDED resync STATUS frames are ignored (R12). -/
def Device.ignoresStatus (d : Device) (m : Member) : Bool :=
  decide ((d.link m).state = .lost) && d.params.commanded m.number

/-- A STATUS frame in PARK (R5): with the wake flag it is the link's first frame and wakes the part, without it it is
discarded. The link acts before the mode controller (log 11). -/
def Device.wakeFrame (d : Device) (m : Member) (alive : BitVec 4) (wake : Bool) (s : Status) : Device :=
  if wake then
    let d := d.accept m alive s
    if d.mode.mode = .park then d.enterWaking .wakeFrame m.number else d
  else d

/-- A STATUS frame that passed the check of R1 (R3, R5, R12). -/
def Device.statusFrame (d : Device) (alive : BitVec 4) (body : StatusBody) : Device :=
  let m := body.member
  if d.mode.mode = .park then d.wakeFrame m alive body.wake (clampStatus body)
  else if d.ignoresStatus m then d
  else d.judged m alive (clampStatus body)

/-- A bad frame on a member port (R2, R12): in PARK, and a STATUS frame in LOST with COMMANDED resync, no effect;
otherwise counted and offered, and a STATUS frame sets freeze. -/
def Device.badMemberFrame (d : Device) (m : Member) (isStatus : Bool) : Device :=
  if d.mode.mode = .park ∨ (isStatus ∧ d.ignoresStatus m) then d
  else
    let l := (d.link m).countCheck
    let d := d.setLink m (if isStatus then l.badStatus else l)
    d.offer ⟨.checkError, if isStatus then 0 else 1, m.number, l.counters.check, 0⟩

/-- RESYNC of a member link (R13): ALIGNING whatever its state; a LINK record where the state changes (log 24). -/
def Device.resyncLink (d : Device) (m : Member) : Device :=
  let l := (d.link m).resynced
  if (d.link m).state = .aligning then d.setLink m l else d.changeLink m l .resync

end Sys2Proof.Machine
end

