-- ==== Sys2Proof/Machine/PowerAllocator.lean ====
section
/-! DEFINITION. The power allocator's cycle in the part (R37 to R42, R48, R55 to R63, R69, R75 to R80): the used values,
the episodes, the GRANTs and the close. -/

namespace Sys2Proof.Machine

/-! ## Used values (R41, R42) -/

/-- A limit's used value: the substitute where the link cannot be used, the lesser of the taken and the previous-used
value while frozen, the taken value otherwise (R42). -/
def usedValue (l : Link) (taken : Status → Option Int) (prev substitute : Int) : Int :=
  if l.state.usable then
    match l.taken.bind fun f => taken f.status with
    | some v => if l.freeze then min v prev else v
    | none => substitute
  else substitute

def Status.pBd : Status → Option Int | .bat _ x _ _ _ => some x | _ => none
def Status.pBc : Status → Option Int | .bat _ _ x _ _ => some x | _ => none
def Status.pGen : Status → Option Int | .eng _ _ x => some x | _ => none
def Status.pTm : Status → Option Int | .trc _ x _ => some x | _ => none
def Status.pRm : Status → Option Int | .trc _ _ x => some x | _ => none
def Status.capF : Status → Option Int | .brk _ _ x _ _ _ _ => some x | _ => none
def Status.capR : Status → Option Int | .brk _ _ _ x _ _ _ => some x | _ => none
def Status.pDem : Status → Option Int | .veh _ _ _ x _ => some x | _ => none
def Status.slip : Status → Option Bool | .brk _ x _ _ _ _ _ => some x | _ => none
def Status.sb : Status → Option Nat | .brk _ _ _ _ x _ _ => some x | _ => none

/-- The seven used values of a cycle; a substituted BRK's capacities are recorded as 4000 (R16, R42). -/
def Device.usedLimits (d : Device) : Limits :=
  let p := d.alloc.prev
  { pBd := usedValue d.links.bat Status.pBd p.pBd 0
    pBc := usedValue d.links.bat Status.pBc p.pBc 0
    pGen := usedValue d.links.eng Status.pGen p.pGen 0
    pTm := usedValue d.links.trc Status.pTm p.pTm 0
    pRm := usedValue d.links.trc Status.pRm p.pRm 0
    capF := usedValue d.links.brk Status.capF p.capF 4000
    capR := usedValue d.links.brk Status.capR p.capR 4000 }

/-- A field without freeze, or its substitute (R16, R41). -/
def takenOr {α : Type} (l : Link) (taken : Status → Option α) (substitute : α) : α :=
  if l.state.usable then (l.taken.bind fun f => taken f.status).getD substitute else substitute

/-- What a cycle reads, after its take (R39). -/
def Device.cycleIn (d : Device) : CycleIn :=
  { mode := d.mode.mode
    pDem := takenOr d.links.veh Status.pDem 0
    lim := d.usedLimits
    kBw := kBw d.params d.wear.batThru
    anchored := d.account.anchored
    eBat := d.account.eBat
    eRes := d.route.eRes
    eFloor := d.params.eFloor
    eBand := d.params.eBand
    eLift := d.params.eLift
    insideEmissionFree := insideOf .emissionFree d.route.zones
    insideQuiet := insideOf .quiet d.route.zones
    running := decide (d.seq.state = .running)
    minLoad := if (d.claim .filterRun).state = .holding then (d.claim .filterRun).load else 0
    lowCharge := decide ((d.claim .lowChargeRun).state = .holding)
    pCreep := d.params.pCreep
    pQuiet := d.params.pQuiet
    brkUsable := d.usable .brk
    brkFrozen := d.links.brk.freeze
    slip := takenOr d.links.brk Status.slip false
    sB := ((takenOr d.links.brk Status.sb 128 : Nat) : Int)
    wornF := d.wear.liningF.state.worn
    wornR := d.wear.liningR.state.worn
    w := d.params.wBias
    sLo := d.params.sLo
    sHi := d.params.sHi
    pRegmax := d.params.pRegmax
    rUp := d.params.rUp
    rPrev := d.alloc.rPrev }

/-! ## Episodes, notices and records (sixth stage; their order: log 9) -/

/-- The state with the allocator at a value. -/
def Device.setAlloc (d : Device) (a : Allocator) : Device := { d with alloc := a }

/-- Zone limp (R48). -/
def Device.noteLimp (d : Device) (c : CycleIn) : Device :=
  if c.limp then
    if d.alloc.zoneLimp then d
    else
      let d := (d.setAlloc { d.alloc with zoneLimp := true }).raisePulse .veh .zoneLimp
      d.offer ⟨.limited, 1, ((firstInside d.route.zones).map Zone.id).getD 0, if c.anchored then c.eBat else -1, c.eFloor⟩
  else d.setAlloc { d.alloc with zoneLimp := false }

/-- Traction-limited episodes and the duration (R56, R57). -/
def Device.noteTraction (d : Device) (c : CycleIn) : Device :=
  let limited := c.tractionLimited
  let duration := if limited ∧ c.pBd2 < c.pD then satInc max16 d.alloc.duration else 0
  let opens := limited && !d.alloc.tractionLimited
  let d := d.setAlloc { d.alloc with tractionLimited := limited, duration := duration }
  if opens then (d.raisePulse .veh .tractionLimited).offer ⟨.limited, 0, 0, c.pD, c.allocate.pT⟩ else d

/-- Regeneration withdrawn by wheel-slip control (R69). -/
def Device.noteSlip (d : Device) (c : CycleIn) : Device :=
  if c.allocate.braking ∧ c.brkUsable ∧ c.slip ∧ 0 < c.rPrev then d.offer ⟨.slip, 0, 0, c.rPrev, c.demandB⟩ else d

/-- Shortfall episodes (R75). -/
def Device.noteShortfall (d : Device) (c : CycleIn) : Device :=
  if 0 < c.allocate.s then
    if d.alloc.shortfall then d
    else
      let d := d.setAlloc { d.alloc with shortfall := true }
      ((d.raisePulse .veh .brakeShortfall).raisePulse .brk .brakeShortfall).offer
        ⟨.shortfall, 0, 0, c.allocate.s, c.demandB⟩
  else d.setAlloc { d.alloc with shortfall := false }

/-- The record of a braking episode at its opening (R76). -/
def Device.newEpisode (d : Device) : Episode :=
  { startClock := d.runClock, startDist := d.dRouteM, regen := 0, friction := 0, slipSeen := false,
    shortfallSeen := false, frozenSeen := false }

/-- One braking cycle added to the open episode (R77). -/
def Episode.add (e : Episode) (c : CycleIn) : Episode :=
  { e with
    regen := e.regen + c.allocate.r.toNat
    friction := e.friction + (c.allocate.fF + c.allocate.fR).toNat
    slipSeen := e.slipSeen || (c.brkUsable && c.slip)
    shortfallSeen := e.shortfallSeen || decide (0 < c.allocate.s)
    frozenSeen := e.frozenSeen || (c.brkUsable && c.brkFrozen) }

/-- The subject of a BRAKE_APPLY record (R78). -/
def Episode.flags (e : Episode) : Nat :=
  (if e.slipSeen then 1 else 0) + (if e.shortfallSeen then 2 else 0) + (if e.frozenSeen then 4 else 0)

/-- The braking episode: opened and accumulated in a braking cycle (R76, R77), closed at the first traction cycle with
the count, the totals and BRAKE_APPLY stamped with its start (R78, R80). -/
def Device.noteEpisode (d : Device) (c : CycleIn) : Device :=
  if c.allocate.braking then
    d.setAlloc { d.alloc with episode := some ((d.alloc.episode.getD d.newEpisode).add c) }
  else
    match d.alloc.episode with
    | none => d
    | some e =>
      let d := d.setAlloc
        { d.alloc with
          episode := none, applyCount := satInc max32 d.alloc.applyCount,
          regenTotal := satAdd max64 d.alloc.regenTotal e.regen,
          frictionTotal := satAdd max64 d.alloc.frictionTotal e.friction }
      d.offerAt e.startClock e.startDist ⟨.brakeApply, 0, e.flags, e.regen, e.friction⟩

/-- The sixth stage of a cycle outside WAKING (R38, R63). -/
def Device.noteCycle (d : Device) (c : CycleIn) : Device :=
  ((((d.noteLimp c).noteTraction c).noteSlip c).noteShortfall c).noteEpisode c

/-! ## GRANTs and the close (R40, R58 to R60) -/

/-- The zone state of the VEH GRANT (R58). -/
def Device.zoneView (d : Device) : ZoneView :=
  if stopCondition d.params d.dRouteM d.route.zones then .emissionFree
  else if insideOf .quiet d.route.zones then .quiet
  else .none

/-- E_bat in the VEH GRANT: 10 kJ units, 65535 while UNANCHORED (R58). -/
def Device.reportedEBat (d : Device) : Nat := if d.account.anchored then d.account.eBat / 10000 else 65535

/-- The port part of a member's GRANT (R58 to R60). -/
def Device.grantPart (d : Device) (c : CycleIn) : Member → GrantPart
  | .veh =>
    .veh c.allocate.total (d.links.map Link.state) d.zoneView d.reportedEBat (d.route.eRes / 10000)
      (d.wear.map WearItem.state)
  | .eng =>
    .eng (if c.mode = .waking then .none else d.seq.command) c.allocate.pG c.unmet d.arbiter.holderCode
  | .bat => .bat c.allocate.pB
  | .trc => .trc c.allocate.setpoint
  | .brk => .brk c.allocate.fF c.allocate.fR c.allocate.r c.allocate.share

/-- The GRANT of a member (R40, R58): the mode of the cycle and its own link state with its port part. -/
def Device.grant (d : Device) (c : CycleIn) (m : Member) : TxFrame :=
  .grant c.mode (d.link m).state (d.grantPart c m)

/-- One GRANT handed to each of the five member link controllers (R40). -/
def Device.handGrants (d : Device) (c : CycleIn) : Device :=
  Member.all.foldl (fun e m => e.placeGrant m (d.grant c m)) d

/-- The close: the previous-used values and R_prev (R40, R42, R55, R68). -/
def Device.closeCycle (d : Device) (c : CycleIn) : Device :=
  d.setAlloc { d.alloc with prev := c.lim, rPrev := c.allocate.r }

/-- A completed LIMITED cycle counted in the dwell, up to 50, and the condition of R27. -/
def Device.countDwell (d : Device) : Device :=
  (d.setMode { d.mode with dwell := satInc dwellTop d.mode.dwell }).checkRunReady

/-- A WAKING cycle past its take: zero grants, no episode, the traction-limited flag and duration cleared (R44, R56,
R57). -/
def Device.wakingCycle (d : Device) : Device :=
  let c := d.cycleIn
  let d := d.setAlloc { d.alloc with tractionLimited := false, duration := 0 }
  (d.handGrants c).closeCycle c

/-- A cycle outside WAKING past its take (R38). -/
def Device.drivingCycle (d : Device) : Device :=
  let c := d.cycleIn
  let d := ((d.noteCycle c).handGrants c).closeCycle c
  if c.mode = .limited then d.countDwell else d

/-- An allocation cycle (R37, R38): the timer restarts, the takes are made, and the cycle goes on by the mode after them;
a take that has brought the part into PARK ends it. -/
def Device.allocationCycle (d : Device) : Device :=
  let d := (d.setAlloc { d.alloc with timer := some msAllocation }).takeAll
  match d.mode.mode with
  | .park => d
  | .waking => d.wakingCycle
  | .limited | .run | .halt | .shutdown => d.drivingCycle

end Sys2Proof.Machine
end

