-- ==== Sys2Proof/Machine/Requests.lean ====
section
/-! DEFINITION. The taking of requests (R176) and what each owner does with a request that is handed to it. An answer is
placed before the owner's effects, in the place the taking found free (R176; log 14); its body is in the order in which
the owner's rule names the values (log 15). -/

namespace Sys2Proof.Machine

/-! ## Taking (R19, R176) -/

/-- What every request carries: the port it came on, its kind code and its tag (R177, R180). -/
structure Request where
  port : Port
  kind : Byte
  tag : Byte
  deriving DecidableEq, Repr

/-- A good frame on SVC: the presence timer restarts at 5 s; where service was absent the status timer starts at 100 ms
(R19, R178). -/
def Device.seenService (d : Device) : Device :=
  { d with
    svc :=
      { d.svc with
        presence := some msPresence,
        status := if d.svc.presence.isSome then d.svc.status else some msStatus } }

/-- A good frame on a port, ahead of what its kind asks for: only SVC keeps a presence timer (R19). -/
def Device.seenFrame (d : Device) (p : Port) : Device := if p = .svc then d.seenService else d

/-- Whether a port's requests are taken: SVC always, a member in ALIGNED and SUSPECT (R176, step 2). -/
def Device.takesRequests (d : Device) (p : Port) : Bool :=
  match p.member with
  | some m => d.usable m
  | none => true

/-- The ANSWER to a request (R177). -/
def Device.reply (d : Device) (r : Request) (code : AnswerCode) (body : List Field) : Device :=
  d.answer r.port r.kind r.tag code body

/-- The checks of R176 in their order; `known` is whether the kind code names a request, `allowed` whether the port may
send it, `owner` what the owner does. -/
def Device.takeRequest (d : Device) (r : Request) (known allowed : Bool) (owner : Device → Device) : Device :=
  let d := d.seenFrame r.port
  if (d.txq r.port).full then d.overrun r.port
  else if !d.takesRequests r.port then d.reply r .notAligned []
  else if !known then d.reply r .unknown []
  else if !allowed then d.reply r .refusedPort []
  else owner d

/-! ## Claims (R109, R114) -/

/-- The greatest minimum load of FILTER_RUN (R109). -/
def maxMinLoad : Nat := 2500

/-- The minimum load a CLAIM asks for: the field of FILTER_RUN, 0 for every other kind (R109). -/
def askedLoad (k : ClaimKind) (load : Word16) : Nat := if k = .filterRun then load.toNat else 0

/-- CLAIM at the arbiter (R109, R110). -/
def Device.ownClaim (d : Device) (r : Request) (kind : Byte) (load : Word16) : Device :=
  match ClaimKind.ofCode kind.toNat with
  | none => d.reply r .unknown []
  | some k =>
    if k.owner ≠ some r.port then d.reply r .refusedPort []
    else if d.mode.mode = .park then d.reply r .refusedMode []
    else
      let stored := min (askedLoad k load) maxMinLoad
      (d.reply r (doneOr (decide (stored < askedLoad k load))) [f16 stored]).arrive k stored

/-- RELEASE at the arbiter (R114). -/
def Device.ownRelease (d : Device) (r : Request) (kind : Byte) : Device :=
  match ClaimKind.ofCode kind.toNat with
  | none => d.reply r .unknown []
  | some k =>
    if k.owner ≠ some r.port then d.reply r .refusedPort []
    else if (d.claim k).state = .idle then d.reply r .notHeld []
    else (d.reply r .done []).releaseClaim k .released

/-! ## Zones (R95 to R100) -/

/-- The answer code of a plan (R96 to R98). -/
def ZoneAddPlan.answer (clamped : Bool) : ZoneAddPlan → AnswerCode
  | .passed => .passed
  | .full => .refusedFull
  | .replaced _ | .inserted | .displaced _ => doneOr clamped

/-- The body of a plan's answer: the stored length, where an entry is stored (R95). -/
def ZoneAddPlan.body (length : Nat) : ZoneAddPlan → List Field
  | .passed | .full => []
  | .replaced _ | .inserted | .displaced _ => [f16 length]

/-- ZONE_ADD at the zone queue (R95 to R98). -/
def Device.ownZoneAdd (d : Device) (r : Request) (id kind : Byte) (start : Word32) (length estimate : Word16) :
    Device :=
  match zoneKindOf kind with
  | none => d.reply r .unknown []
  | some zk =>
    if id = 0 then d.reply r .unknown []
    else
      let stored := max length.toNat 1
      let new := newZone id.toNat zk start.toNat stored estimate.toNat d.dRouteM
      let plan := zoneAddPlan d.dRouteM d.route.zones new
      (d.reply r (plan.answer (decide (length = 0))) (plan.body stored)).applyZoneAdd new plan

/-- ZONE_CANCEL at the zone queue (R99). -/
def Device.ownZoneCancel (d : Device) (r : Request) (id : Byte) : Device :=
  if id = 0 then d.reply r .unknown []
  else
    match findZone id.toNat d.route.zones with
    | none => d.reply r .notFound []
    | some z => (d.reply r .done []).cancelZone z

/-- ROUTE_RESET at the zone queue (R100). -/
def Device.ownRouteReset (d : Device) (r : Request) : Device := (d.reply r .done []).resetRoute

/-! ## RESYNC, ACK_NOTICE, ENGINE_UNLOCK (R13, R131, R174) -/

/-- RESYNC at the named link controller (R13). -/
def Device.ownResync (d : Device) (r : Request) (target : Byte) : Device :=
  match Member.ofNumber target.toNat with
  | none => d.reply r .unknown []
  | some m =>
    if d.mode.mode = .park then d.reply r .refusedMode [] else (d.reply r .done []).resyncLink m

/-- A held kind leaves a port's set (R174). -/
def Device.dropHeld (d : Device) (p : Port) (code : Nat) : Device :=
  d.setNotices (d.notices.set p ((d.notices.get p).dropHeld code))

/-- ACK_NOTICE at the sender's notice set (R174). -/
def Device.ownAckNotice (d : Device) (r : Request) (kind : Byte) : Device :=
  if 7 < kind.toNat then d.reply r .unknown []
  else if (d.notices.get r.port).held.getLsbD kind.toNat then (d.reply r .done []).dropHeld r.port kind.toNat
  else d.reply r .notFound []

/-- ENGINE_UNLOCK at the sequencer (R131). -/
def Device.ownEngineUnlock (d : Device) (r : Request) : Device :=
  if d.seq.state = .lockedOut then (d.reply r .done []).unlockEngine else d.reply r .notHeld []

/-! ## The ring (R162 to R170) -/

/-- NOTE at the ring: its answer carries the sequence number the record takes (R162). -/
def Device.ownNote (d : Device) (r : Request) (value1 value2 : Word32) : Device :=
  let replaces := decide (ringSlots ≤ d.ring.unread) && d.params.hold
  let d := d.reply r (if replaces then .overwrote else .done) [f16 d.ring.seq.toNat]
  d.offer ⟨.note, 0, r.port.number, value1.toInt, value2.toInt⟩

/-- The drain state of a ring that starts a drain (R166). -/
def Ring.startDrain (g : Ring) (mode : DrainState) (count : Nat) (clamped : Bool) (tag : Byte) : Ring :=
  { g with
    drain := mode, remaining := count, reload := count, sent := 0, tag := tag, clamped := clamped, lastSeq := 0 }

/-- DRAIN at the ring (R166 to R168). -/
def Device.ownDrain (d : Device) (r : Request) (count : Word16) (mode : Byte) : Device :=
  match drainModeOf mode with
  | none => d.reply r .unknown []
  | some m =>
    if d.ring.drain ≠ .idle then d.reply r .refusedBusy []
    else
      let n := clampNat count.toNat 1 256
      let clamped := decide (n ≠ count.toNat)
      let d := if m = .continuous then d.reply r (doneOr clamped) [f16 n] else d
      ({ d with ring := d.ring.startDrain m n clamped r.tag }).evalDrain

/-- DRAIN_STOP at the ring (R169). -/
def Device.ownDrainStop (d : Device) (r : Request) : Device :=
  if d.ring.drain = .idle then d.reply r .notHeld []
  else
    let d := d.reply r .done [f32 d.ring.sent]
    { d with ring := { d.ring with drain := .idle } }

/-- RING_ACK at the ring (R170). -/
def Device.ownRingAck (d : Device) (r : Request) (seq : Word16) : Device :=
  match d.ring.find seq with
  | none => d.reply r .notFound []
  | some p =>
    let d := d.reply r .done [f16 (p + 1 - d.ring.tail)]
    ({ d with ring := d.ring.ackTo p }).evalDrain

/-- The configuration block awaits a write whose completion answers a request (R165, R184); an idle engine starts it at
once (R149). -/
def Device.awaitBlock (d : Device) (a : BlockAwait) : Device :=
  ({ d with nv := { d.nv with blockPending := true, blockAwaiting := some a } }).kick

/-- The block's write started by a CONFIG_WRITE is marked: a wear cell flagged within the same ms still goes first (R184;
log 31). `idle` tells that the engine was idle at the taking. -/
def Device.markFresh (d : Device) (idle : Bool) : Device := d.setNv { d.nv with blockFresh := idle }

/-- The settings a RING_CONFIG takes: placed in the working copy, the sampling counters at the new intervals (R163). -/
def Device.placeRing (d : Device) (s : RingSettings) : Device :=
  let params := d.params.setRing s
  { d with params := params, ring := d.ring.resetSamplers params }

/-- The ring clear, at which the drain is evaluated (R164, R166). -/
def Device.clearRing (d : Device) : Device := ({ d with ring := d.ring.emptied }).evalDrain

/-- The effect of a RING_CONFIG that is taken (R163, R164). -/
def Device.applyRingConfig (d : Device) (tag : Byte) (asked : RingSettings) (clear : Bool) : Device :=
  let s := asked.corrected
  let d := d.placeRing s
  let d := if clear then d.clearRing else d
  let d := d.offer ⟨.config, 1, clear.toNat, s.threshold, s.enables⟩
  d.awaitBlock (.ringConfig tag s clear (doneOr (decide (s ≠ asked))))

/-- RING_CONFIG at the ring (R163). -/
def Device.ownRingConfig (d : Device) (r : Request) (mode : Byte)
    (threshold enables slip check start brake : Word16) (clear : Byte) : Device :=
  match ringModeOf mode with
  | none => d.reply r .unknown []
  | some m =>
    if d.blockBusy then d.reply r .refusedBusy []
    else
      d.applyRingConfig r.tag
        ⟨m, threshold.toNat, enables.toNat, slip.toNat, check.toNat, start.toNat, brake.toNat⟩ (clearOf clear)

/-! ## Configuration (R183 to R185) -/

/-- The owners that act when a parameter changes (R181, R88, R103, R104, R142). -/
def Device.paramChanged (d : Device) (n : Nat) : Device :=
  if n = 9 then (d.capEnergy).recomputeReserve
  else if n = 8 ∨ n = 11 ∨ n = 12 then d.recomputeReserve
  else if n = 13 then d.evalZoneStop
  else if 35 ≤ n ∧ n ≤ 44 then
    match Item.ofCode ((n - 33) / 2) with
    | some i => d.recomputeWear i .marks
    | none => d
  else d

/-- Whether a CONFIG_WRITE is accepted in the present mode: PARK, and HALT with the effective park brake applied
(R183). -/
def Device.configMode (d : Device) : Bool :=
  decide (d.mode.mode = .park) || (decide (d.mode.mode = .halt) && d.effPark)

/-- The effect of a CONFIG_WRITE that is taken (R184): the value, the owners that act, the record, the pending block. -/
def Device.applyConfigWrite (d : Device) (tag : Byte) (n value : Nat) : Device :=
  let stored := writeValue d.params n value
  let d := ({ d with params := d.params.set n stored }).paramChanged n
  let d := d.offer ⟨.config, 0, 0, n, stored⟩
  (d.awaitBlock (.configWrite tag n stored (doneOr (decide (stored ≠ value))))).markFresh d.nv.writing.isNone

/-- CONFIG_WRITE at the configuration owner (R183). -/
def Device.ownConfigWrite (d : Device) (r : Request) (param : Byte) (value : Word32) : Device :=
  if param = 0 ∨ 63 < param.toNat then d.reply r .unknown []
  else if !d.configMode then d.reply r .refusedMode []
  else if d.blockBusy then d.reply r .refusedBusy []
  else d.applyConfigWrite r.tag param.toNat value.toNat

/-- CONFIG_READ at the configuration owner (R185). -/
def Device.ownConfigRead (d : Device) (r : Request) (param : Byte) : Device :=
  if param = 0 ∨ 70 < param.toNat then d.reply r .unknown []
  else d.reply r .done [f8 param.toNat, f32 (d.params.get param.toNat)]

/-! ## Wear (R145 to R147) -/

/-- WEAR_READ at the wear table (R145). The remainder takes 4 bytes for every item (the model's choice: log 15). -/
def Device.ownWearRead (d : Device) (r : Request) (item : Byte) : Device :=
  match Item.ofCode item.toNat with
  | none => d.reply r .unknown []
  | some i =>
    let w := d.wear.get i
    d.reply r .done
      [f8 i.code, f8 w.state.code, f32 w.count, f32 w.rem, f32 (d.params.warnMark i.code),
        f32 (d.params.limitMark i.code), f8 (d.itemBusy i).toNat]

/-- WEAR_RESET or WEAR_SET at the wear table (R145, R146). -/
def Device.ownWearCount (d : Device) (r : Request) (item : Byte) (count : Nat) (cause : WearCause)
    (await : WearAwait) : Device :=
  match Item.ofCode item.toNat with
  | none => d.reply r .unknown []
  | some i =>
    if d.mode.mode ≠ .park then d.reply r .refusedMode []
    else if d.itemBusy i then d.reply r .refusedBusy []
    else d.setCount i count cause await

/-! ## Counters (R186) -/

/-- The groups of COUNTER_READ (R186). -/
inductive CounterGroup where
  | link (m : Member)
  | svc
  | energy
  deriving DecidableEq, Repr

/-- The group of a code, 1 to 7. -/
def counterGroupOf (b : Byte) : Option CounterGroup :=
  match Member.ofNumber b.toNat with
  | some m => some (.link m)
  | none => if b = 6 then some .svc else if b = 7 then some .energy else none

/-- The seven error counters in the order of R186. -/
def LinkCounters.fields (c : LinkCounters) : List Field :=
  [f16 c.check, f16 c.sequence, f16 c.gaps, f16 c.skips, f16 c.repeats, f16 c.overruns, f16 c.losses]

/-- A group's values as they stand (R186). -/
def Device.counterFields (d : Device) : CounterGroup → List Field
  | .link m => (d.link m).counters.fields
  | .svc => [f16 d.svc.overruns]
  | .energy => [f64 d.alloc.regenTotal, f64 d.alloc.frictionTotal, f32 d.alloc.applyCount]

/-- A group's values set to 0 (R80, R186). -/
def Device.clearCounters (d : Device) : CounterGroup → Device
  | .link m => d.setLink m { d.link m with counters := ⟨0, 0, 0, 0, 0, 0, 0⟩ }
  | .svc => { d with svc := { d.svc with overruns := 0 } }
  | .energy => d.setAlloc { d.alloc with regenTotal := 0, frictionTotal := 0, applyCount := 0 }

/-- COUNTER_READ at the link controllers and the allocator (R186). Its answer is the group's values alone and echoes no
clear flag (the model's reading of R180 with R186: log 15). -/
def Device.ownCounterRead (d : Device) (r : Request) (group clear : Byte) : Device :=
  match counterGroupOf group with
  | none => d.reply r .unknown []
  | some g =>
    let d := d.reply r .done (d.counterFields g)
    if clearOf clear then d.clearCounters g else d

end Sys2Proof.Machine
end

