-- ==== Sys2Proof/Machine/NvStore.lean ====
section
/-! DEFINITION. The completion of a cell write (R147, R150, R165, R184) and the checks of the cells (R148). -/

namespace Sys2Proof.Machine

/-- The cell holds the captured contents, with a matching check (R150). -/
def Nv.land (nv : Nv) : NvWrite → Nv
  | .wear i count => { nv with cells := nv.cells.set i (WearCell.written (byteOf i.code) count) }
  | .block vals => { nv with block := ConfigBlock.written vals }

/-- The answer to the WEAR_RESET or WEAR_SET that awaited the write of the item's cell (R147). -/
def Device.answerWear (d : Device) (i : Item) (count : Nat) : Device :=
  match (d.wear.get i).awaiting with
  | none => d
  | some a =>
    let d := d.setWear i { d.wear.get i with awaiting := none }
    d.answer .svc (if a.isSet then codeWearSet else codeWearReset) a.tag .done [f8 i.code, f32 count]

/-- The answer to the CONFIG_WRITE or RING_CONFIG that awaited the write of the block (R165, R184). -/
def Device.answerBlock (d : Device) : Device :=
  match d.nv.blockAwaiting with
  | none => d
  | some (.configWrite tag param value code) =>
    (d.setNv { d.nv with blockAwaiting := none }).answer .svc codeConfigWrite tag code [f8 param, f32 value]
  | some (.ringConfig tag s clear code) =>
    (d.setNv { d.nv with blockAwaiting := none }).answer .svc codeRingConfig tag code
      [f8 s.mode, f16 s.threshold, f16 s.enables, f16 s.slip, f16 s.check, f16 s.start, f16 s.brake, f8 clear.toNat]

/-- The report of a completed write to the cell's owner (R150). -/
def Device.reportWritten (d : Device) : NvWrite → Device
  | .wear i count => d.answerWear i count
  | .block _ => d.answerBlock

/-- A write completes (R150): the cell is written, its owner answers, the next write starts, and an engine become idle
is reported to the mode controller. -/
def Device.writeCompletes (d : Device) : Device :=
  match d.nv.writing with
  | none => d
  | some w =>
    let d := ((d.setNv (d.nv.land w)).reportWritten w).startNext
    if d.nv.writing.isSome then d else d.checkPark

/-- A wear cell passes its check: its CRC-8 matches and its code is the item's (R148). -/
def WearCell.passes (c : WearCell) (i : Item) : Bool :=
  decide (c.crc = crc8 (WearCell.bytes c.code c.count)) && decide (c.code = byteOf i.code)

/-- The configuration block passes its check (R148); a block of another length than the table's is none. -/
def ConfigBlock.passes (b : ConfigBlock) : Bool :=
  decide (b.crc = crc8 (ConfigBlock.bytes b.vals)) && decide (b.vals.length = 70)

end Sys2Proof.Machine
end

