-- ==== Sys2Proof/Machine/ResetControl.lean ====
section
/-! DEFINITION. Reset: the part held in reset (R22, R150) and the end of a reset, with its loading (R22, R151, R171,
R182). -/

namespace Sys2Proof

/-- The subject of the RESET record (R154). -/
def ResetCause.code : ResetCause → Nat
  | .powerOn => 1 | .resetLine => 2

namespace Machine

/-- The write in progress is interrupted: the cell holds its previous contents or the captured ones (R150; log 7). -/
def Device.interruptWrite (d : Device) : Device :=
  match d.nv.writing with
  | none => d
  | some w => { d with nv := if Config.writeLanded d.free then d.nv.land w else d.nv, free := d.free + 1 }

/-- The reset line is asserted or power is lost (R22): the part is held in reset, its working state gone; the cells
keep what they hold (R150). What the registers read meanwhile nothing can see (log 6). -/
def Device.assertReset (d : Device) : Device :=
  let d := d.interruptWrite
  { Device.blank d.ignLine d.doorLine (Nv.idleOver d.nv.cells d.nv.block) defaultParams d.free with inReset := true }

/-- The working configuration a reset loads (R182). -/
def ConfigBlock.load (b : ConfigBlock) : ParamTable := if b.passes then correctLoaded b.vals else defaultParams

/-- The configuration block failed its check: the DEFAULTED record, and CONFIG_DEFAULTED held at VEH and SVC (R182). -/
def Device.noteDefaulted (d : Device) : Device :=
  ((d.offer ⟨.config, 2, 0, 0, 0⟩).raiseHeld .veh .configDefaulted 0).raiseHeld .svc .configDefaulted 0

/-- The notices of an item loaded from a good cell (R151). -/
def loadNotices (state : WearState) (warn limit : Nat) : List HeldKind :=
  match state with
  | .warned => [.wearWarn]
  | .limit => if warn < limit then [.wearWarn, .wearLimit] else [.wearLimit]
  | .normal | .invalid => []

/-- A wear cell read at the end of a reset (R141, R151). -/
def Device.loadWear (d : Device) (i : Item) : Device :=
  let c := d.nv.cells.get i
  if c.passes i then
    let d := d.setWear i ⟨c.count.toNat, 0, .normal, false, none⟩
    let state := d.wearStateNow i
    (d.setWear i ⟨c.count.toNat, 0, state, false, none⟩).raiseWearAll i
      (loadNotices state (d.params.warnMark i.code) (d.params.limitMark i.code))
  else
    ((d.setWear i ⟨0, 0, .invalid, false, none⟩).offerWear i .load).raiseWear i .wearInvalid

/-- Everything a reset does once the blocks hold their reset state: the RESET record first, then the records and notices
of loading, then the wear cells, and the wake where the ignition is ON (R22, R151, R171, R182). The order of the five
cells, and so of the WEAR records of failed ones, is the model's choice: by item code (log 33). -/
def Device.loadAll (d : Device) (cause : ResetCause) : Device :=
  let d := d.offer ⟨.reset, 0, cause.code, 0, 0⟩
  let d := if d.nv.block.passes then d else d.noteDefaulted
  let d := Item.all.foldl Device.loadWear d
  if d.mode.ignition then d.enterWaking .resetIgnition 0 else d

/-- The end of a reset (R22): the same for power-on and for the release of the reset line. A part that was not held in
reset is first brought into it. -/
def Device.endReset (d : Device) (cause : ResetCause) : Device :=
  let d := if d.inReset then d else d.assertReset
  (Device.blank d.ignLine d.doorLine (Nv.idleOver d.nv.cells d.nv.block) d.nv.block.load d.free).loadAll cause

end Machine

end Sys2Proof
end

