-- ==== Sys2Proof/Machine/FrameCommands.lean ====
section
/-! DEFINITION. The meanings of the frames that are no requests: STATUS_FRAME, SVC_STATUS_FRAME and BAD_FRAME_RECEIVED
(R1 to R8, R11, R12, R19). -/

namespace Sys2Proof.Machine

/-- STATUS_FRAME: a STATUS frame that passed the check, judged, accepted or discarded (R3 to R6, R8, R11, R12). -/
def execStatusFrame (alive : BitVec 4) (body : StatusBody) (s : State) : Host.Outcome State Fault Refusal :=
  s.act fun d => d.live fun d => d.statusFrame alive body

/-- SVC_STATUS_FRAME: the presence timer restarts and the frame is discarded (R19). -/
def execSvcStatusFrame (s : State) : Host.Outcome State Fault Refusal :=
  s.act fun d => d.live Device.seenService

/-- BAD_FRAME_RECEIVED: a member's bad frame is counted (R2); one on SVC is discarded without further effect (R19). -/
def execBadFrameReceived (port : Port) (kind : Byte) (s : State) : Host.Outcome State Fault Refusal :=
  s.act fun d => d.live fun d =>
    match port.member with
    | some m => d.badMemberFrame m (decide (kind = statusCode))
    | none => d

end Sys2Proof.Machine
end

