-- ==== Sys2Proof/Machine/LineCommands.lean ====
section
/-! DEFINITION. The meanings of the events of the hardwired lines and of reset: IGNITION_LINE_CHANGE, DOOR_LINE_CHANGE,
RESET and RESET_ASSERTED (R20 to R22). A line keeps its reading while the part is held in reset, where a change of it
does nothing else (R22; log 6). -/

namespace Sys2Proof.Machine

/-- The debounce of a reading of the ignition line that has just changed (R20). -/
def Device.debounceIgnition (d : Device) (on : Bool) : Device :=
  d.setMode { d.mode with debounce := if on = d.mode.ignition then none else some msDebounce }

/-- A change of the ignition line's reading (R20). -/
def Device.changeIgnition (d : Device) (on : Bool) : Device :=
  if d.ignLine = on then d else ({ d with ignLine := on }).live fun d => d.debounceIgnition on

/-- A change of the door line's reading (R21). -/
def Device.changeDoor (d : Device) (isOpen : Bool) : Device :=
  if d.doorLine = isOpen then d else ({ d with doorLine := isOpen }).live Device.doorEvents

/-- IGNITION_LINE_CHANGE (R20). -/
def execIgnitionLineChange (on : Bool) (s : State) : Host.Outcome State Fault Refusal :=
  s.act fun d => d.changeIgnition on

/-- DOOR_LINE_CHANGE (R21, R29 to R31). -/
def execDoorLineChange (isOpen : Bool) (s : State) : Host.Outcome State Fault Refusal :=
  s.act fun d => d.changeDoor isOpen

/-- RESET: power-on, or the release of the reset line (R22, R151, R171, R182). -/
def execReset (cause : ResetCause) (s : State) : Host.Outcome State Fault Refusal :=
  s.act fun d => d.endReset cause

/-- RESET_ASSERTED: the reset line is asserted, or power is lost (R22, R150); a part already held stays as it is. -/
def execResetAsserted (s : State) : Host.Outcome State Fault Refusal :=
  s.act fun d => d.live Device.assertReset

end Sys2Proof.Machine
end

