-- ==== Sys2Proof/Machine/LinkCommands.lean ====
section
/-! DEFINITION. The meanings of the events of the transmit links: TRANSMISSION_START and TRANSMISSION_COMPLETE (R173,
R175; log 26). -/

namespace Sys2Proof.Machine

/-- The frame in transmission has been sent: it leaves the queue, and on SVC the drain is evaluated (R166, R175). -/
def Device.transmissionDone (d : Device) (p : Port) : Device :=
  let q := d.txq p
  if q.sending.isSome then
    let d := d.setTxq p { q with frames := q.frames.drop 1, sending := none }
    if p = .svc then d.evalDrain else d
  else d

/-- TRANSMISSION_START (R173, R175). -/
def execTransmissionStart (port : Port) (s : State) : Host.Outcome State Fault Refusal :=
  s.act fun d => d.live fun d => d.startTransmission port

/-- TRANSMISSION_COMPLETE (R175). -/
def execTransmissionComplete (port : Port) (s : State) : Host.Outcome State Fault Refusal :=
  s.act fun d => d.live fun d => d.transmissionDone port

end Sys2Proof.Machine
end

