-- ==== Sys2Proof/Machine/RequestCommands.lean ====
section
/-! DEFINITION. The meanings of the request frames: each is taken through the checks of R176 and handed to its owner. -/

namespace Sys2Proof.Machine

/-- UNKNOWN_REQUEST: a kind code that names no request (R176, step 3). -/
def execUnknownRequest (port : Port) (kind tag : Byte) (s : State) : Host.Outcome State Fault Refusal :=
  s.act fun d => d.live fun d => d.takeRequest ⟨port, kind, tag⟩ false true id

/-- CLAIM (R109, R110). -/
def execClaim (port : Port) (tag kind : Byte) (load : Word16) (s : State) : Host.Outcome State Fault Refusal :=
  s.act fun d => d.live fun d =>
    d.takeRequest ⟨port, codeClaim, tag⟩ true true fun d => d.ownClaim ⟨port, codeClaim, tag⟩ kind load

/-- RELEASE (R114). -/
def execRelease (port : Port) (tag kind : Byte) (s : State) : Host.Outcome State Fault Refusal :=
  s.act fun d => d.live fun d =>
    d.takeRequest ⟨port, codeRelease, tag⟩ true true fun d => d.ownRelease ⟨port, codeRelease, tag⟩ kind

/-- ZONE_ADD (R95 to R98). -/
def execZoneAdd (port : Port) (tag id kind : Byte) (start : Word32) (length estimate : Word16) (s : State) :
    Host.Outcome State Fault Refusal :=
  s.act fun d => d.live fun d =>
    d.takeRequest ⟨port, codeZoneAdd, tag⟩ true (vehOnly port) fun d =>
      d.ownZoneAdd ⟨port, codeZoneAdd, tag⟩ id kind start length estimate

/-- ZONE_CANCEL (R99). -/
def execZoneCancel (port : Port) (tag id : Byte) (s : State) : Host.Outcome State Fault Refusal :=
  s.act fun d => d.live fun d =>
    d.takeRequest ⟨port, codeZoneCancel, tag⟩ true (vehOnly port) fun d =>
      d.ownZoneCancel ⟨port, codeZoneCancel, tag⟩ id

/-- ROUTE_RESET (R100). -/
def execRouteReset (port : Port) (tag : Byte) (s : State) : Host.Outcome State Fault Refusal :=
  s.act fun d => d.live fun d =>
    d.takeRequest ⟨port, codeRouteReset, tag⟩ true (vehOnly port) fun d =>
      d.ownRouteReset ⟨port, codeRouteReset, tag⟩

/-- RESYNC (R13). -/
def execResync (port : Port) (tag target : Byte) (s : State) : Host.Outcome State Fault Refusal :=
  s.act fun d => d.live fun d =>
    d.takeRequest ⟨port, codeResync, tag⟩ true (vehOrSvc port) fun d =>
      d.ownResync ⟨port, codeResync, tag⟩ target

/-- NOTE (R162). -/
def execNote (port : Port) (tag : Byte) (value1 value2 : Word32) (s : State) : Host.Outcome State Fault Refusal :=
  s.act fun d => d.live fun d =>
    d.takeRequest ⟨port, codeNote, tag⟩ true true fun d => d.ownNote ⟨port, codeNote, tag⟩ value1 value2

/-- ACK_NOTICE (R174). -/
def execAckNotice (port : Port) (tag kind : Byte) (s : State) : Host.Outcome State Fault Refusal :=
  s.act fun d => d.live fun d =>
    d.takeRequest ⟨port, codeAckNotice, tag⟩ true true fun d => d.ownAckNotice ⟨port, codeAckNotice, tag⟩ kind

/-- CONFIG_WRITE (R183, R184). -/
def execConfigWrite (port : Port) (tag param : Byte) (value : Word32) (s : State) :
    Host.Outcome State Fault Refusal :=
  s.act fun d => d.live fun d =>
    d.takeRequest ⟨port, codeConfigWrite, tag⟩ true (svcOnly port) fun d =>
      d.ownConfigWrite ⟨port, codeConfigWrite, tag⟩ param value

/-- CONFIG_READ (R185). -/
def execConfigRead (port : Port) (tag param : Byte) (s : State) : Host.Outcome State Fault Refusal :=
  s.act fun d => d.live fun d =>
    d.takeRequest ⟨port, codeConfigRead, tag⟩ true (svcOnly port) fun d =>
      d.ownConfigRead ⟨port, codeConfigRead, tag⟩ param

/-- RING_CONFIG (R163, R164). -/
def execRingConfig (port : Port) (tag mode : Byte) (threshold enables slip check start brake : Word16) (clear : Byte)
    (s : State) : Host.Outcome State Fault Refusal :=
  s.act fun d => d.live fun d =>
    d.takeRequest ⟨port, codeRingConfig, tag⟩ true (svcOnly port) fun d =>
      d.ownRingConfig ⟨port, codeRingConfig, tag⟩ mode threshold enables slip check start brake clear

/-- DRAIN (R166 to R168). -/
def execDrain (port : Port) (tag : Byte) (count : Word16) (mode : Byte) (s : State) :
    Host.Outcome State Fault Refusal :=
  s.act fun d => d.live fun d =>
    d.takeRequest ⟨port, codeDrain, tag⟩ true (svcOnly port) fun d => d.ownDrain ⟨port, codeDrain, tag⟩ count mode

/-- DRAIN_STOP (R169). -/
def execDrainStop (port : Port) (tag : Byte) (s : State) : Host.Outcome State Fault Refusal :=
  s.act fun d => d.live fun d =>
    d.takeRequest ⟨port, codeDrainStop, tag⟩ true (svcOnly port) fun d => d.ownDrainStop ⟨port, codeDrainStop, tag⟩

/-- RING_ACK (R170). -/
def execRingAck (port : Port) (tag : Byte) (seq : Word16) (s : State) : Host.Outcome State Fault Refusal :=
  s.act fun d => d.live fun d =>
    d.takeRequest ⟨port, codeRingAck, tag⟩ true (svcOnly port) fun d => d.ownRingAck ⟨port, codeRingAck, tag⟩ seq

/-- WEAR_READ (R145). -/
def execWearRead (port : Port) (tag item : Byte) (s : State) : Host.Outcome State Fault Refusal :=
  s.act fun d => d.live fun d =>
    d.takeRequest ⟨port, codeWearRead, tag⟩ true (svcOnly port) fun d => d.ownWearRead ⟨port, codeWearRead, tag⟩ item

/-- WEAR_RESET (R145 to R147). -/
def execWearReset (port : Port) (tag item : Byte) (s : State) : Host.Outcome State Fault Refusal :=
  s.act fun d => d.live fun d =>
    d.takeRequest ⟨port, codeWearReset, tag⟩ true (svcOnly port) fun d =>
      d.ownWearCount ⟨port, codeWearReset, tag⟩ item 0 .wearReset ⟨false, tag⟩

/-- WEAR_SET (R145 to R147). -/
def execWearSet (port : Port) (tag item : Byte) (count : Word32) (s : State) : Host.Outcome State Fault Refusal :=
  s.act fun d => d.live fun d =>
    d.takeRequest ⟨port, codeWearSet, tag⟩ true (svcOnly port) fun d =>
      d.ownWearCount ⟨port, codeWearSet, tag⟩ item count.toNat .wearSet ⟨true, tag⟩

/-- COUNTER_READ (R186). -/
def execCounterRead (port : Port) (tag group clear : Byte) (s : State) : Host.Outcome State Fault Refusal :=
  s.act fun d => d.live fun d =>
    d.takeRequest ⟨port, codeCounterRead, tag⟩ true (svcOnly port) fun d =>
      d.ownCounterRead ⟨port, codeCounterRead, tag⟩ group clear

/-- ENGINE_UNLOCK (R131). -/
def execEngineUnlock (port : Port) (tag : Byte) (s : State) : Host.Outcome State Fault Refusal :=
  s.act fun d => d.live fun d =>
    d.takeRequest ⟨port, codeEngineUnlock, tag⟩ true (svcOnly port) fun d =>
      d.ownEngineUnlock ⟨port, codeEngineUnlock, tag⟩

end Sys2Proof.Machine
end

