-- ==== Sys2Proof/Machine/TimerCommands.lean ====
section
/-! DEFINITION. The meanings of the expiries of the part's own timers. An expiry acts where its timer runs and has no
effect where it does not (log 2). -/

namespace Sys2Proof.Machine

/-- The expiry of a timer: it acts if the timer runs. -/
def Device.expire (d : Device) (t : Timer) (f : Device → Device) : Device := if t.isSome then f d else d

/-- Service becomes absent: the status timer stops (R19, R178). -/
def Device.serviceAbsent (d : Device) : Device := { d with svc := { d.svc with presence := none, status := none } }

/-- The status timer's expiry: a SERVICE_STATUS is placed and the timer restarts (R178). -/
def Device.statusDue (d : Device) : Device :=
  ({ d with svc := { d.svc with status := some msStatus } }).placeServiceStatus

/-- The expiry of a claim's age timer (R115): CLAIM_EXPIRED at the owner, and the release. -/
def Device.claimExpires (d : Device) (k : ClaimKind) : Device :=
  (match k.owner with
    | some p => d.raisePulse p .claimExpired
    | none => d).releaseClaim k .expired

/-- IGNITION_DEBOUNCE_EXPIRY (R20). -/
def execIgnitionDebounceExpiry (s : State) : Host.Outcome State Fault Refusal :=
  s.act fun d => d.live fun d => d.expire d.mode.debounce Device.ignitionExpiry

/-- ALLOCATION_CYCLE (R38). -/
def execAllocationCycle (s : State) : Host.Outcome State Fault Refusal :=
  s.act fun d => d.live fun d => d.expire d.alloc.timer Device.allocationCycle

/-- WAKE_SLOW (R26). -/
def execWakeSlow (s : State) : Host.Outcome State Fault Refusal :=
  s.act fun d => d.live fun d => d.expire d.mode.wake Device.wakeSlow

/-- DOOR_CLOSED (R30). -/
def execDoorClosed (s : State) : Host.Outcome State Fault Refusal :=
  s.act fun d => d.live fun d => d.expire d.mode.doorAgree Device.leaveHalt

/-- DOOR_DISAGREE (R31). -/
def execDoorDisagree (s : State) : Host.Outcome State Fault Refusal :=
  s.act fun d => d.live fun d => d.expire d.mode.doorDisagree Device.reportDisagree

/-- SHUTDOWN_LIMIT (R34). -/
def execShutdownLimit (s : State) : Host.Outcome State Fault Refusal :=
  s.act fun d => d.live fun d => d.expire d.mode.shutdown Device.shutdownExpires

/-- SERVICE_PRESENCE_EXPIRY (R19, R178). -/
def execServicePresenceExpiry (s : State) : Host.Outcome State Fault Refusal :=
  s.act fun d => d.live fun d => d.expire d.svc.presence Device.serviceAbsent

/-- SERVICE_STATUS (R178). -/
def execServiceStatus (s : State) : Host.Outcome State Fault Refusal :=
  s.act fun d => d.live fun d => d.expire d.svc.status Device.statusDue

/-- CLAIM_EXPIRED (R115). -/
def execClaimExpired (kind : ClaimKind) (s : State) : Host.Outcome State Fault Refusal :=
  s.act fun d => d.live fun d => d.expire (d.claim kind).age fun d => d.claimExpires kind

/-- CRANK_TIMER_EXPIRY (R123). -/
def execCrankTimerExpiry (s : State) : Host.Outcome State Fault Refusal :=
  s.act fun d => d.live fun d => d.expire d.seq.crank Device.crankFails

/-- RETRY_GAP_EXPIRY (R121, R123). -/
def execRetryGapExpiry (s : State) : Host.Outcome State Fault Refusal :=
  s.act fun d => d.live fun d => d.expire d.seq.gap fun d => (d.setSeq { d.seq with gap := none }).tryStart

/-- COOLDOWN_EXPIRY (R126). -/
def execCooldownExpiry (s : State) : Host.Outcome State Fault Refusal :=
  s.act fun d => d.live fun d => d.expire d.seq.cool Device.toStopping

/-- STOP_TIMEOUT (R127). -/
def execStopTimeout (s : State) : Host.Outcome State Fault Refusal :=
  s.act fun d => d.live fun d => d.expire d.seq.stop Device.stopTimesOut

/-- OFF_DWELL_EXPIRY (R130). -/
def execOffDwellExpiry (s : State) : Host.Outcome State Fault Refusal :=
  s.act fun d => d.live fun d => d.expire d.seq.offDwell fun d => (d.setSeq { d.seq with offDwell := none }).tryStart

/-- POLICY_CHECK (R132): the timer restarts at once, and the policy is evaluated. -/
def execPolicyCheck (s : State) : Host.Outcome State Fault Refusal :=
  s.act fun d => d.live fun d =>
    d.expire d.seq.policy fun d => (d.setSeq { d.seq with policy := some msPolicy }).policyCheck

/-- RUN_CLOCK_TICK (R155): one more period, in every mode. -/
def execRunClockTick (s : State) : Host.Outcome State Fault Refusal :=
  s.act fun d => d.live fun d => { d with runClock := d.runClock + 1 }

/-- NV_WRITE_COMPLETE (R150). -/
def execNvWriteComplete (s : State) : Host.Outcome State Fault Refusal :=
  s.act fun d => d.live Device.writeCompletes

end Sys2Proof.Machine
end

