-- ==== Sys2Proof/Machine/Dispatch.lean ====
section
/-! DEFINITION. The meaning of each command, one arm per row of the table. -/

namespace Sys2Proof.Machine

/-- The effect of a command on everything but the queue. -/
def exec (i : Instr) (s : State) : Host.Outcome State Fault Refusal :=
  match i with
  | .statusFrame alive body => Sys2Proof.Machine.execStatusFrame alive body s
  | .svcStatusFrame => Sys2Proof.Machine.execSvcStatusFrame s
  | .unknownRequest port kind tag => Sys2Proof.Machine.execUnknownRequest port kind tag s
  | .claim port tag kind load => Sys2Proof.Machine.execClaim port tag kind load s
  | .release port tag kind => Sys2Proof.Machine.execRelease port tag kind s
  | .zoneAdd port tag id kind start length estimate => Sys2Proof.Machine.execZoneAdd port tag id kind start length estimate s
  | .zoneCancel port tag id => Sys2Proof.Machine.execZoneCancel port tag id s
  | .routeReset port tag => Sys2Proof.Machine.execRouteReset port tag s
  | .resync port tag target => Sys2Proof.Machine.execResync port tag target s
  | .note port tag value1 value2 => Sys2Proof.Machine.execNote port tag value1 value2 s
  | .ackNotice port tag kind => Sys2Proof.Machine.execAckNotice port tag kind s
  | .configWrite port tag param value => Sys2Proof.Machine.execConfigWrite port tag param value s
  | .configRead port tag param => Sys2Proof.Machine.execConfigRead port tag param s
  | .ringConfig port tag mode threshold enables slip check start brake clear => Sys2Proof.Machine.execRingConfig port tag mode threshold enables slip check start brake clear s
  | .drain port tag count mode => Sys2Proof.Machine.execDrain port tag count mode s
  | .drainStop port tag => Sys2Proof.Machine.execDrainStop port tag s
  | .ringAck port tag seq => Sys2Proof.Machine.execRingAck port tag seq s
  | .wearRead port tag item => Sys2Proof.Machine.execWearRead port tag item s
  | .wearReset port tag item => Sys2Proof.Machine.execWearReset port tag item s
  | .wearSet port tag item count => Sys2Proof.Machine.execWearSet port tag item count s
  | .counterRead port tag group clear => Sys2Proof.Machine.execCounterRead port tag group clear s
  | .engineUnlock port tag => Sys2Proof.Machine.execEngineUnlock port tag s
  | .ignitionLineChange on => Sys2Proof.Machine.execIgnitionLineChange on s
  | .ignitionDebounceExpiry => Sys2Proof.Machine.execIgnitionDebounceExpiry s
  | .doorLineChange isOpen => Sys2Proof.Machine.execDoorLineChange isOpen s
  | .reset cause => Sys2Proof.Machine.execReset cause s
  | .allocationCycle => Sys2Proof.Machine.execAllocationCycle s
  | .wakeSlow => Sys2Proof.Machine.execWakeSlow s
  | .doorClosed => Sys2Proof.Machine.execDoorClosed s
  | .doorDisagree => Sys2Proof.Machine.execDoorDisagree s
  | .shutdownLimit => Sys2Proof.Machine.execShutdownLimit s
  | .servicePresenceExpiry => Sys2Proof.Machine.execServicePresenceExpiry s
  | .serviceStatus => Sys2Proof.Machine.execServiceStatus s
  | .claimExpired kind => Sys2Proof.Machine.execClaimExpired kind s
  | .crankTimerExpiry => Sys2Proof.Machine.execCrankTimerExpiry s
  | .retryGapExpiry => Sys2Proof.Machine.execRetryGapExpiry s
  | .cooldownExpiry => Sys2Proof.Machine.execCooldownExpiry s
  | .stopTimeout => Sys2Proof.Machine.execStopTimeout s
  | .offDwellExpiry => Sys2Proof.Machine.execOffDwellExpiry s
  | .policyCheck => Sys2Proof.Machine.execPolicyCheck s
  | .runClockTick => Sys2Proof.Machine.execRunClockTick s
  | .nvWriteComplete => Sys2Proof.Machine.execNvWriteComplete s
  | .transmissionStart port => Sys2Proof.Machine.execTransmissionStart port s
  | .transmissionComplete port => Sys2Proof.Machine.execTransmissionComplete port s
  | .badFrameReceived port kind => Sys2Proof.Machine.execBadFrameReceived port kind s
  | .resetAsserted => Sys2Proof.Machine.execResetAsserted s

end Sys2Proof.Machine
end

