-- ==== Sys2Proof/Safety.lean ====
section
/-! DEFINITION. What a sound state of the part is, block by block, in the words of the rules that promise it. Each
predicate is decidable, and a statement says of each that every step keeps it. -/

namespace Sys2Proof.Machine

/-! ## Configuration (R101, R142, R144, R181) -/

/-- The numbers of the parameters. -/
def paramNumbers : List Nat := List.range' 1 70

/-- Every parameter in its own range, and the bounds between parameters (R181): E_start_off at most E_lift, E_floor at
most E_cap, every warn mark at most its limit mark, the derate table not increasing; and the enables of the non-maskable
kinds on. -/
abbrev ParamTable.sound (t : ParamTable) : Prop :=
  t.vals.length = 70
    ∧ (∀ n ∈ paramNumbers, (ownRange n).1 ≤ t.get n ∧ t.get n ≤ (ownRange n).2)
    ∧ t.get 7 ≤ t.get 6 ∧ t.get 8 ≤ t.get 9
    ∧ (∀ i ∈ Item.all, t.warnMark i.code ≤ t.limitMark i.code)
    ∧ (∀ i ∈ List.range 7, t.derate (i + 1) ≤ t.derate i)
    ∧ t.enables &&& forcedEnables = forcedEnables

/-! ## Member links (chapter 1) -/

/-- The counts of a link, by its state (section 1.1, R7 to R11, R13, R15): SILENT and LOST links hold nothing, a miss
run stays below the one that would change the state, and the clean-run count stands only under freeze. -/
abbrev Link.sound (l : Link) : Prop :=
  ((l.state = .silent ∨ l.state = .lost) → l.unread = [] ∧ l.taken = none ∧ l.expected = none)
    ∧ (l.state = .aligned → l.missRun ≤ 2 ∧ l.recovery = 0)
    ∧ (l.state = .suspect → l.missRun ≤ 9 ∧ l.recovery ≤ 1)
    ∧ (l.state.usable = false → l.missRun = 0 ∧ l.recovery = 0)
    ∧ (l.state = .lost → l.freeze = true)
    ∧ (if l.state = .aligning then l.accepted ≤ 7 else l.accepted = 0)
    ∧ (if l.freeze = true then l.cleanRun ≤ 19 else l.cleanRun = 0)
    ∧ l.unread.length ≤ 2

/-- Every member link is sound. -/
abbrev Device.linksSound (d : Device) : Prop := ∀ m ∈ Member.all, (d.link m).sound

/-- The member whose STATUS frames carry these values (R180). -/
def Status.member : Status → Member
  | .veh .. => .veh
  | .eng .. => .eng
  | .bat .. => .bat
  | .trc .. => .trc
  | .brk .. => .brk

/-- The values of a STATUS frame within the ranges they are clamped to (R4, section 6 of the scope, R180). -/
def Status.inRange : Status → Bool
  | .veh _ _ _ pDem dist => decide (-6000 ≤ pDem ∧ pDem ≤ 3000 ∧ dist ≤ 255)
  | .eng _ _ pGen => decide (0 ≤ pGen ∧ pGen ≤ 2500)
  | .bat _ pBd pBc pMeas eBms =>
    decide (0 ≤ pBd ∧ pBd ≤ 4000 ∧ 0 ≤ pBc ∧ pBc ≤ 4000 ∧ -32768 ≤ pMeas ∧ pMeas ≤ 32767 ∧ eBms ≤ max16)
  | .trc _ pTm pRm => decide (0 ≤ pTm ∧ pTm ≤ 3500 ∧ 0 ≤ pRm ∧ pRm ≤ 4000)
  | .brk _ _ capF capR sb appF appR =>
    decide (0 ≤ capF ∧ capF ≤ 4000 ∧ 0 ≤ capR ∧ capR ≤ 4000 ∧ sb ≤ 255 ∧ appF ≤ max16 ∧ appR ≤ max16)

/-- The used limits within the ranges of their fields (R42). -/
abbrev Limits.inRange (x : Limits) : Prop :=
  0 ≤ x.pBd ∧ x.pBd ≤ 4000 ∧ 0 ≤ x.pBc ∧ x.pBc ≤ 4000 ∧ 0 ≤ x.pGen ∧ x.pGen ≤ 2500 ∧ 0 ≤ x.pTm ∧ x.pTm ≤ 3500
    ∧ 0 ≤ x.pRm ∧ x.pRm ≤ 4000 ∧ 0 ≤ x.capF ∧ x.capF ≤ 4000 ∧ 0 ≤ x.capR ∧ x.capR ≤ 4000

/-- A link holds frames of its own member alone, their values in range; the limits and the regeneration a cycle leaves to
the next are in range (R4, R42, R68). -/
abbrev Device.valuesSound (d : Device) : Prop :=
  (∀ m ∈ Member.all, ∀ f ∈ (d.link m).unread ++ (d.link m).taken.toList,
      f.status.member = m ∧ f.status.inRange = true)
    ∧ d.alloc.prev.inRange ∧ 0 ≤ d.alloc.rPrev ∧ d.alloc.rPrev ≤ 4000

/-! ## Mode controller (chapter 2) -/

/-- The timers and marks of the modes (R22 to R37, R132): XCVR_WAKE, the allocation timer and the policy check timer
outside PARK, the wake timer in WAKING, the door agreement timer and the origin in HALT, the shutdown timer and the
raised KEY_OFF_STOP in SHUTDOWN; the dwell within 50. -/
abbrev Device.modeSound (d : Device) : Prop :=
  d.mode.xcvrWake = decide (d.mode.mode ≠ .park)
    ∧ d.alloc.timer.isSome = decide (d.mode.mode ≠ .park)
    ∧ d.seq.policy.isSome = decide (d.mode.mode ≠ .park)
    ∧ (d.mode.wake.isSome → d.mode.mode = .waking)
    ∧ (d.mode.doorAgree.isSome → d.mode.mode = .halt)
    ∧ d.mode.origin.isSome = decide (d.mode.mode = .halt)
    ∧ d.mode.shutdown.isSome = decide (d.mode.mode = .shutdown)
    ∧ d.mode.keyOffRaised = decide (d.mode.mode = .shutdown)
    ∧ d.mode.dwell ≤ dwellTop

/-- No mode stands where the condition that ends it holds: WAKING without the links of R26, LIMITED without the
conditions of R27, LIMITED and RUN with the door closed (R29), SHUTDOWN with the engine or the write engine busy (R34). -/
abbrev Device.modeSettled (d : Device) : Prop :=
  (d.mode.mode = .waking → d.linksReady = false)
    ∧ (d.mode.mode = .limited → d.runReady = false)
    ∧ (d.mode.mode = .limited ∨ d.mode.mode = .run → d.doorOpen = false)
    ∧ (d.mode.mode = .shutdown → d.seq.state.stopped = true → d.nvBusy = true)

/-- In PARK every block is as PARK entry leaves it (R35, R61, R135, R179): the links SILENT, empty and without freeze, the
claims IDLE, the mode controller without a timer but the debounce, the allocator and the sequencer as after reset but for
the totals and the latest engine state, and no GRANT waiting. -/
abbrev Device.parkSound (d : Device) : Prop :=
  d.mode.mode = .park →
    (∀ m ∈ Member.all, d.link m = (d.link m).parked)
      ∧ (∀ k ∈ ClaimKind.all, d.claim k = (d.claim k).parked)
      ∧ d.arbiter.stack = [] ∧ d.route.stopRaised = false
      ∧ d.mode = d.mode.parked ∧ d.alloc = d.alloc.parked ∧ d.seq = d.seq.parked
      ∧ (∀ m ∈ Member.all, (d.txq m.port).waiting.any TxFrame.isGrant = false)

/-! ## Energy, route and zones (chapter 5) -/

/-- At most 8 entries, no two with the same id, starts not decreasing (R91). -/
abbrev zonesSound (zs : List Zone) : Prop :=
  zs.length ≤ zonePlaces ∧ zs.Pairwise fun a b => a.start ≤ b.start ∧ a.id ≠ b.id

/-- Every entry is INSIDE exactly when the distance has reached its start, and none has been passed (R91, R92). -/
abbrev zonesPlaced (dM : Nat) (zs : List Zone) : Prop :=
  ∀ z ∈ zs, z.inside = decide (z.start ≤ dM) ∧ dM < z.start + z.length

/-- The reserve is that of the queue as it stands, and E_bat is within E_cap (R85, R102, R103). -/
abbrev Device.energySound (d : Device) : Prop :=
  d.route.eRes = reserve d.params d.dRouteM d.route.zones ∧ d.account.eBat ≤ d.params.eCap

/-- Outside PARK the raise state of ZONE_STOP follows its condition; in PARK it is lowered (R104, R105). -/
abbrev Device.zoneStopSound (d : Device) : Prop :=
  d.route.stopRaised
    = (decide (d.mode.mode ≠ .park) && stopCondition d.params d.dRouteM d.route.zones)

/-! ## Arbiter and sequencer (chapter 6) -/

/-- The claims of R110: at most one HOLDING; with none, none waits; a SUSPENDED claim stands on the stack, once, and the
levels fall strictly from the holder down the stack; no PENDING claim is above the holder; the fixed kinds have level 3
and no age timer (R108, R115). -/
abbrev Arbiter.sound (a : Arbiter) : Prop :=
  (∀ k ∈ ClaimKind.all, ∀ j ∈ ClaimKind.all,
      (a.claim k).state = .holding → (a.claim j).state = .holding → k = j)
    ∧ a.stack.Nodup
    ∧ (∀ k ∈ ClaimKind.all, k ∈ a.stack ↔ (a.claim k).state = .suspended)
    ∧ (a.holder = none → ∀ k ∈ ClaimKind.all, (a.claim k).state = .idle)
    ∧ (∀ h ∈ ClaimKind.all, a.holder = some h →
        ((h :: a.stack).map fun k => (a.claim k).level).Pairwise (· > ·)
          ∧ ∀ k ∈ ClaimKind.all, (a.claim k).state = .pending → (a.claim k).level ≤ (a.claim h).level)
    ∧ (∀ k ∈ ClaimKind.all, k.configurable = false →
        ((a.claim k).state ≠ .idle → (a.claim k).level = 3) ∧ (a.claim k).age = none)

/-- An internal claim is not IDLE exactly while its raise state is raised (R111). -/
abbrev Device.raisesSound (d : Device) : Prop :=
  d.route.stopRaised = decide ((d.claim .zoneStop).state ≠ .idle)
    ∧ d.mode.keyOffRaised = decide ((d.claim .keyOffStop).state ≠ .idle)

/-- The directive is STOP. -/
def Arbiter.directsStop (a : Arbiter) : Bool :=
  match a.directive with
  | .stop _ => true
  | .policy | .run _ => false

/-- The sequencer's timers and attempts by its state (R121 to R131); it cranks in LIMITED, RUN and HALT alone, never
under a STOP directive (R120, R121, R124). -/
abbrev Device.seqSound (d : Device) : Prop :=
  d.seq.crank.isSome = decide (d.seq.state = .cranking)
    ∧ d.seq.cool.isSome = decide (d.seq.state = .cooldown)
    ∧ (d.seq.stop.isSome → d.seq.state = .stopping)
    ∧ d.seq.runTime.isSome = (decide (d.seq.state = .running) || decide (d.seq.state = .cooldown))
    ∧ (d.seq.gap.isSome → d.seq.state = .off)
    ∧ d.seq.attempts ≤ 5 ∧ (d.seq.state ≠ .lockedOut → d.seq.attempts ≤ 4)
    ∧ (d.seq.state = .cranking → d.mode.mode.permitsCrank = true ∧ d.arbiter.directsStop = false)

/-! ## Wear table and non-volatile store (chapter 7) -/

/-- An item's remainder is below its quantum, its count within 32 bits, and its state that of its count and marks unless
it is INVALID (R136, R138, R139). -/
abbrev Device.wearSound (d : Device) : Prop :=
  ∀ i ∈ Item.all,
    (d.wear.get i).rem < i.quantum ∧ (d.wear.get i).count ≤ max32
      ∧ ((d.wear.get i).state ≠ .invalid → (d.wear.get i).state = d.wearStateNow i)

/-- An idle write engine has nothing pending, its 5 ms run while it writes, a block write alone is one that may give
way, and a request awaits only a write that is outstanding (R147, R149, R150, R165, R184). -/
abbrev Device.nvSound (d : Device) : Prop :=
  d.nv.left.isSome = d.nv.writing.isSome ∧ (∀ ms ∈ d.nv.left, ms ≤ msCellWrite)
    ∧ (d.nv.writing = none → d.nvBusy = false)
    ∧ (d.nv.blockFresh = true → d.nv.givesWay = true)
    ∧ (∀ i ∈ Item.all, (d.wear.get i).awaiting.isSome → d.itemBusy i = true)
    ∧ (d.nv.blockAwaiting.isSome → d.blockBusy = true)

/-! ## Event ring (chapter 8) -/

/-- tail ≤ cursor ≤ head, at most 256 unread records, each in its slot; the counts within their widths (chapter 8,
introduction; R158 to R160, R166). -/
abbrev Ring.sound (g : Ring) : Prop :=
  g.slots.length = ringSlots ∧ g.tail ≤ g.cursor ∧ g.cursor ≤ g.head ∧ g.unread ≤ ringSlots
    ∧ (∀ n ∈ List.range g.unread, (g.at (g.tail + n)).isSome)
    ∧ g.missed ≤ max16 ∧ g.remaining ≤ g.reload ∧ g.reload ≤ ringSlots

/-- The drain has been evaluated: it places no record now, and a ONE_SHOT drain that is active has records to send
(R166, R167). -/
abbrev Device.drainSettled (d : Device) : Prop :=
  d.drainIO.ready = false ∧ (d.ring.drain = .oneShot → 0 < d.ring.remaining ∧ d.ring.cursor < d.ring.head)

/-! ## Transmit queues and the service timers (chapter 9) -/

/-- The kinds of frame a port's queue may hold: GRANTs and ANSWERs a member's, all but GRANTs SVC's (R175). -/
def TxFrame.belongs (p : Port) : TxFrame → Bool
  | .grant .. => decide (p ≠ .svc)
  | .answer .. => true
  | .ringRecord .. => decide (p = .svc)
  | .serviceStatus => decide (p = .svc)

/-- A queue holds at most 8 frames of its port's kinds, at most one of them a waiting GRANT or SERVICE_STATUS, and a
frame in transmission is its front, in 32 bytes (R175). -/
abbrev TxQueue.sound (p : Port) (q : TxQueue) : Prop :=
  q.frames.length ≤ queuePlaces
    ∧ (∀ f ∈ q.frames, TxFrame.belongs p f = true)
    ∧ (q.waiting.filter TxFrame.carriesNotices).length ≤ 1
    ∧ (∀ b, q.sending = some b → q.frames ≠ [] ∧ b.length = frameLength)

/-- The six ports. -/
def Port.all : List Port := [.veh, .eng, .bat, .trc, .brk, .svc]

/-- Every transmit queue is sound. -/
abbrev Device.txSound (d : Device) : Prop := ∀ p ∈ Port.all, (d.txq p).sound p

/-- The status timer runs exactly while service is present (R19, R178). -/
abbrev Device.svcSound (d : Device) : Prop := d.svc.status.isSome = d.svc.presence.isSome

end Sys2Proof.Machine
end

