-- ==== Sys2Proof/Certificates/Slice0/Obligations.lean ====
section
/-! DEFINITION. The statements for the provers. `Yields i s Q` says that the command i, in the state s, answers a next
state with the same queue and a part that satisfies Q. A frame is written as an equation: the part after is the part
before but for the fields named. -/

open Sys2Proof Sys2Proof.Machine

namespace Sys2Proof.Machine

/-! ## Words of the statements -/

/-- The command answers a next state: the queue unchanged, the part as Q says. -/
abbrev Yields (i : Instr) (s : State) (Q : Device → Prop) : Prop :=
  ∃ t, exec i s = .next t ∧ t.pending = s.pending ∧ Q t.dev

/-- The command answers a next state: the queue unchanged, the part exactly d. -/
abbrev Becomes (i : Instr) (s : State) (d : Device) : Prop := exec i s = .next { s with dev := d }

/-- Every step that starts from a part with I and P ends with P. -/
abbrev StepKeeps (I P : Device → Prop) : Prop :=
  ∀ s t : State, I s.dev → P s.dev → step s = .next t → P t.dev

/-- A port hands its requests to their owners: the part runs, the queue has a place, a member's link is ALIGNED or
SUSPECT (R176, steps 1 and 2). -/
abbrev Device.hands (d : Device) (p : Port) : Prop :=
  d.inReset = false ∧ (d.txq p).frames.length < 8 ∧ (∀ m ∈ p.member, (d.link m).state = .aligned ∨ (d.link m).state = .suspect)

/-- The part with one more ANSWER at the end of a port's queue. -/
def Device.answered (d : Device) (p : Port) (kind tag : Byte) (code : AnswerCode) (body : List Field) : Device :=
  { d with tx := d.tx.set p { d.txq p with frames := (d.txq p).frames ++ [.answer kind tag code body] } }

/-- An ANSWER has been placed next in a port's queue, behind the frames that stood there. -/
abbrev Device.answeredNext (d e : Device) (p : Port) (kind tag : Byte) (code : AnswerCode) (body : List Field) : Prop :=
  ((d.txq p).frames ++ [TxFrame.answer kind tag code body]).isPrefixOf (e.txq p).frames = true

/-- A STATUS frame with this counter is accepted (R3, R5, R12): in PARK with the wake flag; elsewhere judged good or good
with a gap, and not ignored. -/
abbrev Device.acceptsStatus (d : Device) (alive : BitVec 4) (body : StatusBody) : Prop :=
  d.inReset = false
    ∧ (if d.mode.mode = .park then body.wake = true
        else d.ignoresStatus body.member = false
          ∧ ∀ e ∈ (d.link body.member).expected, 1 ≤ (alive - e + 1).toNat ∧ (alive - e + 1).toNat ≤ 3)

/-- An accepted frame came with a gap: the alive delta is 2 or 3 (R3). -/
def Link.sawGap (l : Link) (alive : BitVec 4) : Bool :=
  match l.expected with
  | none => false
  | some e => decide (alive - e + 1 = 2) || decide (alive - e + 1 = 3)

/-- A 16-bit count, one higher unless it stands at 65535. -/
def up16 (n : Nat) : Nat := if n < 65535 then n + 1 else n

/-- A link once its accepted frame is counted and stored: the frame stands behind what is unread, a full store skips its
oldest, and a gap and a skip are counted and set freeze (R3, R4, R6, R14). -/
def Link.stores (l : Link) (depth : Nat) (alive : BitVec 4) (f : Stored) : Link :=
  let skips := l.unread.length + 1 - depth
  let upset := l.sawGap alive || decide (0 < skips)
  { l with
    expected := some (alive + 1), unread := l.unread.drop skips ++ [f], freeze := l.freeze || upset,
    cleanRun := if upset then 0 else l.cleanRun,
    counters :=
      { l.counters with
        gaps := if l.sawGap alive then up16 l.counters.gaps else l.counters.gaps,
        skips := if skips = 0 then l.counters.skips else satAdd 65535 l.counters.skips skips } }

/-- The depth of a member's store (R6). -/
def Device.depthOf (d : Device) (m : Member) : Nat := if d.params.storeDirect m.number then 1 else 2

/-- What a wear item is fed by an accepted frame, or by the start it completes (R137). -/
def feedOf (d : Device) (body : StatusBody) : Item → Nat
  | .liningF => match body with | .brk _ _ _ _ _ f _ => f.toNat | _ => 0
  | .liningR => match body with | .brk _ _ _ _ _ _ r => r.toNat | _ => 0
  | .batThru => match body with | .bat _ _ _ p _ => p.toInt.natAbs | _ => 0
  | .engStart => match body with | .eng _ e _ => if e = 2 ∧ d.seq.state = .cranking then 1 else 0 | _ => 0
  | .engRun => match body with | .eng _ e _ => if e = 2 then 1 else 0 | _ => 0

/-- The off-dwell timer as it starts: t_minoff, or twice it while ENG_START is WARNED, LIMIT or INVALID (R130). -/
def Device.dwellStart (d : Device) : Timer :=
  let ms := (if d.wear.engStart.state = .normal then 1 else 2) * d.params.tMinoff
  if ms = 0 then none else some ms

/-- A limit field: its port, the field among the limits, the field of a taken frame, the value recorded for a link that
cannot be used (R42). -/
structure LimitField where
  member : Member
  used : Limits → Int
  taken : Status → Option Int
  substitute : Int

/-- The seven limit fields (R42). -/
def limitFields : List LimitField :=
  [⟨.bat, Limits.pBd, Status.pBd, 0⟩, ⟨.bat, Limits.pBc, Status.pBc, 0⟩, ⟨.eng, Limits.pGen, Status.pGen, 0⟩,
    ⟨.trc, Limits.pTm, Status.pTm, 0⟩, ⟨.trc, Limits.pRm, Status.pRm, 0⟩, ⟨.brk, Limits.capF, Status.capF, 4000⟩,
    ⟨.brk, Limits.capR, Status.capR, 4000⟩]

/-- The inputs of a cycle within the ranges their owners keep (section 6 of the scope, R42, R144, R181). -/
abbrev CycleIn.inRange (c : CycleIn) : Prop :=
  0 ≤ c.lim.pBd ∧ 0 ≤ c.lim.pBc ∧ 0 ≤ c.lim.pGen ∧ 0 ≤ c.lim.pTm ∧ 0 ≤ c.lim.pRm ∧ 0 ≤ c.lim.capF ∧ 0 ≤ c.lim.capR
    ∧ 128 ≤ c.kBw ∧ c.kBw ≤ 256 ∧ 1 ≤ c.eBand ∧ 0 ≤ c.minLoad ∧ 0 ≤ c.pCreep ∧ 0 ≤ c.pQuiet ∧ 0 ≤ c.sLo
    ∧ c.sLo ≤ c.sHi ∧ c.sHi ≤ 255 ∧ 0 ≤ c.pRegmax ∧ 1 ≤ c.rUp ∧ 0 ≤ c.rPrev

/-- The conditioned demand, by the table of R43. -/
def CycleIn.conditioned (c : CycleIn) : Int :=
  let p := min (max c.pDem (-6000)) 3000
  match c.mode with
  | .run => p
  | .limited => min p c.pCreep
  | .halt | .shutdown => min p 0
  | .waking | .park => 0

/-- A cycle outside WAKING and PARK. -/
abbrev CycleIn.drives (c : CycleIn) : Prop := c.mode ≠ .waking ∧ c.mode ≠ .park

/-- The part once a good frame has been heard on a port: on SVC the presence timer restarts at 5 s, and the status timer
starts at 100 ms where service was absent (R19, R178). -/
def Device.heard (d : Device) (p : Port) : Device :=
  if p = .svc then
    { d with
      svc :=
        { d.svc with
          presence := some 5000, status := if d.svc.presence.isSome then d.svc.status else some 100 } }
  else d

/-- The part once it has heard a request and answered it, nothing else changed. -/
def Device.replied (d : Device) (p : Port) (kind tag : Byte) (code : AnswerCode) (body : List Field) : Device :=
  (d.heard p).answered p kind tag code body

/-- The sequence number of the record at a ring position. -/
def Ring.seqAt (g : Ring) (p : Nat) : Option Word16 := (g.slots.getD (p % 256) none).map Record.seq

/-- A claim with nothing but its level left (R112, R113). -/
def Claim.dropped (c : Claim) : Claim := ⟨.idle, c.level, 0, none⟩

/-- What the release of a claim that is not IDLE makes of the arbiter (R112, R113): the claim is IDLE. A waiting claim
leaves the others as they were. After a HOLDING one the best of the waiting claims holds: the top of the stack, or a
PENDING claim of a higher level than it; of PENDING claims the highest, and of equal ones the first in the table. -/
abbrev Arbiter.releasedTo (a b : Arbiter) (k : ClaimKind) : Prop :=
  b.claim k = (a.claim k).dropped
    ∧ (if (a.claim k).state = .holding then
        (∀ j ∈ ClaimKind.all, j ≠ k → b.holder ≠ some j → b.claim j = a.claim j)
          ∧ (b.holder = none →
              b.stack = [] ∧ a.stack = [] ∧ ∀ j ∈ ClaimKind.all, (a.claim j).state ≠ .pending)
          ∧ (∀ h ∈ b.holder,
              h ≠ k ∧ b.claim h = { a.claim h with state := .holding }
                ∧ (if (a.claim h).state = .pending then
                    b.stack = a.stack
                      ∧ (∀ t ∈ a.stack.head?, (a.claim t).level < (a.claim h).level)
                      ∧ (∀ j ∈ ClaimKind.all, (a.claim j).state = .pending →
                          (a.claim j).level ≤ (a.claim h).level
                            ∧ ((a.claim j).level = (a.claim h).level → h.code ≤ j.code))
                  else
                    a.stack = h :: b.stack
                      ∧ ∀ j ∈ ClaimKind.all, (a.claim j).state = .pending →
                          (a.claim j).level ≤ (a.claim h).level))
      else
        (∀ j ∈ ClaimKind.all, j ≠ k → b.claim j = a.claim j)
          ∧ b.stack = a.stack.filter (fun j => decide (j ≠ k)))

/-- An entry's place in the zone queue: behind the entries that start no later than it (R91). -/
def placedIn (z : Zone) (zs : List Zone) : List Zone :=
  zs.takeWhile (fun e => decide (e.start ≤ z.start)) ++ z :: zs.dropWhile (fun e => decide (e.start ≤ z.start))

/-- A start condition that lacks nothing but an elapsed retry gap and off-dwell (R121). -/
def Device.mayCrank (d : Device) : Bool :=
  (decide (d.mode.mode = .limited) || decide (d.mode.mode = .run) || decide (d.mode.mode = .halt))
    && (decide ((d.link .eng).state = .aligned) || decide ((d.link .eng).state = .suspect))
    && (match d.arbiter.directive with
        | .run _ => true
        | .policy => d.wantsRun
        | .stop _ => false)

/-- The off-dwell stands in the way of a start: it runs, and no RUN holder of level 2 or 3 passes over it (R121). -/
def Device.dwellBars (d : Device) : Bool :=
  d.seq.offDwell.isSome
    && !(match d.arbiter.directive with
        | .run k => decide (2 ≤ (d.claim k).level)
        | .policy | .stop _ => false)

/-- A sequencer as it starts to crank. -/
def Sequencer.cranks (q : Sequencer) (t : ParamTable) : Sequencer :=
  { q with state := .cranking, crank := some (t.get 17 * 1000), crankTime := 0 }

/-- A sequencer as it adopts an engine found running (R128). -/
def Sequencer.adopted (q : Sequencer) : Sequencer :=
  { q with state := .running, runTime := some 0, attempts := 0, gap := none, offDwell := none }

/-- A sequencer as it enters STOPPING (R125, R126). -/
def Sequencer.stops (q : Sequencer) (t : ParamTable) : Sequencer :=
  { q with
    state := .stopping, crank := none, cool := none, runTime := none, stop := some (t.get 21 * 1000), crankTime := 0 }

/-- A sequencer as it enters COOLDOWN, or STOPPING where t_cool is 0 (R125). -/
def Sequencer.cools (q : Sequencer) (t : ParamTable) : Sequencer :=
  if t.get 20 = 0 then q.stops t else { q with state := .cooldown, cool := some (t.get 20 * 1000) }

/-- The sequencer that a change of holder or of mode leaves, outside PARK and WAKING (R120, R121, R124 to R126). -/
def Device.directed (d : Device) : Sequencer :=
  let q := d.seq
  if d.mode.mode = .park ∨ d.mode.mode = .waking then q
  else
    match q.state, d.arbiter.directive with
    | .off, _ => if d.mayCrank ∧ d.dwellBars = false ∧ q.gap = none then q.cranks d.params else q
    | .cranking, .stop _ => q.stops d.params
    | .cranking, _ => if d.mode.mode = .shutdown then q.stops d.params else q
    | .running, .stop k => if k.code ≤ 3 then q.stops d.params else q.cools d.params
    | .running, .policy => if d.wantsStop then q.cools d.params else q
    | .running, .run _ => q
    | .cooldown, .stop k => if k.code ≤ 3 then q.stops d.params else q
    | .cooldown, .policy => if d.wantsRun then { q with state := .running, cool := none } else q
    | .cooldown, .run _ => { q with state := .running, cool := none }
    | .stopping, _ => q
    | .lockedOut, _ => q

/-- The sequencer that the engine state of a STATUS frame leaves, on a link that it does not change (R122, R127, R128,
R131). -/
def Device.reported (d : Device) (code : BitVec 2) : Sequencer :=
  let q : Sequencer := { d.seq with engine := EngineState.ofCode code }
  let stopped := code = 0 ∨ code = 3
  match q.state with
  | .cranking =>
    if code = 2 then { q with state := .running, crank := none, runTime := some 0, attempts := 0, crankTime := 0 } else q
  | .stopping => if stopped then { q with state := .off, stop := none, offDwell := d.dwellStart } else q
  | .running | .cooldown =>
    if stopped then { q with state := .off, cool := none, runTime := none, offDwell := d.dwellStart } else q
  | .off => if code = 2 then ({ d with seq := q.adopted }).directed else q
  | .lockedOut => q

/-- The report of a change of the ENG link in OFF: a start, where the start condition holds (R121). -/
def Device.startedIfOff (d : Device) : Sequencer :=
  if d.seq.state = .off ∧ d.mayCrank ∧ d.dwellBars = false ∧ d.seq.gap = none then d.seq.cranks d.params else d.seq

/-- The mode controller once the effective flags are formed anew: LIMITED and RUN give HALT with their origin, the agreement
timer runs in HALT while all three exit conditions hold, the disagreement timer while line and flag differ unreported (R29
to R31). -/
def Device.doorsTaken (x : Device) : ModeCtl :=
  let m := x.mode
  let halts := (decide (m.mode = .limited) || decide (m.mode = .run)) && (x.doorLine || x.effDoor)
  let agrees := decide (x.doorLine = x.effDoor)
  { m with
    mode := if halts then .halt else m.mode,
    origin := if halts then (if m.mode = .run then some .run else some .limited) else m.origin,
    doorAgree :=
      if halts = true ∨ m.mode = .halt then
        (if x.doorLine = false ∧ x.effDoor = false ∧ x.effPark = false then
          (if m.doorAgree.isSome then m.doorAgree else some 200)
        else none)
      else m.doorAgree,
    doorDisagree :=
      if m.mode = .park then m.doorDisagree else if agrees then none
      else if m.doorDisagree = none ∧ m.reported = false then some 2000 else m.doorDisagree,
    reported := m.reported && (decide (m.mode = .park) || !agrees) }

/-- The arbiter of e has replaced that of d: the sequencer follows where the holder has changed (R117, R120). -/
abbrev Device.followed (d e : Device) : Prop :=
  e.seq =
    (if e.arbiter.holder = d.arbiter.holder then d.seq
      else ({ d with arbiter := e.arbiter, route := e.route }).directed)

/-- The zone queue stands at zs, with the reserve and the ZONE_STOP condition taken anew; beside them no more than the
arbiter, the sequencer that follows it, and what records and notices touch has changed (R103, R104, R111). -/
abbrev Device.routeAt (d e : Device) (dRoute : Nat) (zs : List Zone) : Prop :=
  e.route.dRoute = dRoute ∧ e.route.zones = zs ∧ e.route.eRes = reserve d.params (dRoute / 100) zs
    ∧ e.route.stopRaised =
      (if d.mode.mode = .park then d.route.stopRaised else stopCondition d.params (dRoute / 100) zs)
    ∧ (e.route.stopRaised = d.route.stopRaised → e.arbiter = d.arbiter)
    ∧ d.followed e
    ∧ e =
      { d with
        route := e.route, arbiter := e.arbiter, seq := e.seq, ring := e.ring, tx := e.tx, svc := e.svc,
        notices := e.notices, free := e.free }

/-- The part after the takes of a cycle, the timer restarted (R37, R38): what the rest of the cycle reads. -/
def Device.afterTakes (d : Device) : Device := ({ d with alloc := { d.alloc with timer := some 10 } }).takeAll

/-- A timer of the part, with the command that its expiry brings. -/
structure PartTimer where
  read : Device → Timer
  expiry : Instr

/-- The timers of the part. -/
def partTimers : List PartTimer :=
  [⟨fun d => d.mode.debounce, .ignitionDebounceExpiry⟩, ⟨fun d => d.mode.doorAgree, .doorClosed⟩,
    ⟨fun d => d.mode.doorDisagree, .doorDisagree⟩, ⟨fun d => d.mode.wake, .wakeSlow⟩,
    ⟨fun d => d.mode.shutdown, .shutdownLimit⟩, ⟨fun d => d.svc.presence, .servicePresenceExpiry⟩,
    ⟨fun d => d.svc.status, .serviceStatus⟩, ⟨fun d => d.alloc.timer, .allocationCycle⟩,
    ⟨fun d => d.seq.crank, .crankTimerExpiry⟩, ⟨fun d => d.seq.gap, .retryGapExpiry⟩,
    ⟨fun d => d.seq.cool, .cooldownExpiry⟩, ⟨fun d => d.seq.stop, .stopTimeout⟩,
    ⟨fun d => d.seq.offDwell, .offDwellExpiry⟩, ⟨fun d => d.seq.policy, .policyCheck⟩,
    ⟨fun d => d.nv.left, .nvWriteComplete⟩]
    ++ ClaimKind.all.map fun k => ⟨fun d => (d.claim k).age, .claimExpired k⟩

/-- The part after a millisecond, the timers, the run clock's period and the two counts of time as in `e` (log 1); a block
write that started before it no longer gives way (log 31). -/
def Device.timed (d e : Device) : Device :=
  { d with
    mode :=
      { d.mode with
        debounce := e.mode.debounce, doorAgree := e.mode.doorAgree, doorDisagree := e.mode.doorDisagree,
        wake := e.mode.wake, shutdown := e.mode.shutdown }
    svc := { d.svc with presence := e.svc.presence, status := e.svc.status }
    alloc := { d.alloc with timer := e.alloc.timer }
    arbiter := e.arbiter
    seq :=
      { d.seq with
        crank := e.seq.crank, gap := e.seq.gap, cool := e.seq.cool, stop := e.seq.stop, offDwell := e.seq.offDwell,
        policy := e.seq.policy, runTime := e.seq.runTime, crankTime := e.seq.crankTime }
    nv := { d.nv with left := e.nv.left, blockFresh := false }
    clockLeft := e.clockLeft }

/-- The set of the wear items that satisfy a condition, one bit an item: bit c - 1 for item code c (R180). -/
def itemSet (c : Item → Bool) : Byte :=
  BitVec.ofNat 8 ((Item.all.map fun i => if c i then 2 ^ (i.code - 1) else 0).sum)

/-- The weights 2^(n-1) of the member ports n whose link is in a state (R26). -/
def Device.portWeights (d : Device) (x : LinkState) : Nat :=
  (Member.all.map fun m => if (d.link m).state = x then 2 ^ (m.number - 1) else 0).sum

/-- The wear state of a count at the marks of an item that is not INVALID (R139). -/
def stateAt (t : ParamTable) (i : Item) (count : Nat) : WearState :=
  if count < t.get (33 + 2 * i.code) then .normal
  else if count < t.get (34 + 2 * i.code) then .warned else .limit

/-- A port's WEAR_WARN is held with an item in its set. -/
def NoticeSet.warnsOf (n : NoticeSet) (i : Item) : Bool := n.hasHeld .wearWarn && n.warnItems.getLsbD (i.code - 1)

/-- A port's WEAR_LIMIT is held with an item in its set. -/
def NoticeSet.limitsOf (n : NoticeSet) (i : Item) : Bool := n.hasHeld .wearLimit && n.limitItems.getLsbD (i.code - 1)

/-- The zone queue after its evaluation at a distance: passed entries gone, the others in their order, INSIDE from their
start on (R92). -/
def evaluated (dM : Nat) (zs : List Zone) : List Zone :=
  (zs.filter fun z => decide (dM < z.start + z.length)).map fun z =>
    { z with inside := z.inside || decide (z.start ≤ dM) }

/-- An occurrence with the run clock and the distance it is stamped with. -/
structure Offer where
  clock : Word32
  dist : Nat
  occurrence : Occurrence

/-- The part after offers, in order (R156). -/
def Device.offered (d : Device) (os : List Offer) : Device :=
  os.foldl (fun d o => d.offerAt o.clock o.dist o.occurrence) d

/-- The occurrences of a cycle that ended in a zone limp, a traction limit, a withdrawal by wheel slip, a shortfall or a
braking episode's end: ZONE_LIMP (R48), TRACTION_LIMITED (R56), SLIP (R69), SHORTFALL (R75), BRAKE_APPLY (R78); their order
is the model's choice (log 9). -/
def Device.cycleOffers (d : Device) (c : CycleIn) (a : Allocation) : List Offer :=
  let now : Occurrence → Offer := fun o => ⟨d.runClock, d.route.dRoute / 100, o⟩
  let limp := c.insideEmissionFree && (!c.anchored || decide (c.eBat ≤ c.eFloor))
  let first := d.route.zones.find? fun z => decide (z.kind = .emissionFree) && z.inside
  (if limp = true ∧ d.alloc.zoneLimp = false then
      [now ⟨.limited, 1, (first.map Zone.id).getD 0, if c.anchored then c.eBat else -1, c.eFloor⟩]
    else [])
    ++ (if 0 ≤ c.pD ∧ a.pT < c.pD ∧ d.alloc.tractionLimited = false then [now ⟨.limited, 0, 0, c.pD, a.pT⟩] else [])
    ++ (if c.pD < 0 ∧ c.brkUsable = true ∧ c.slip = true ∧ 0 < c.rPrev then [now ⟨.slip, 0, 0, c.rPrev, -c.pD⟩] else [])
    ++ (if 0 < a.s ∧ d.alloc.shortfall = false then [now ⟨.shortfall, 0, 0, a.s, -c.pD⟩] else [])
    ++ (match d.alloc.episode with
        | some x =>
          if c.pD < 0 then []
          else
            [⟨x.startClock, x.startDist,
              ⟨.brakeApply, 0,
                (if x.slipSeen then 1 else 0) + (if x.shortfallSeen then 2 else 0) + (if x.frozenSeen then 4 else 0),
                x.regen, x.friction⟩⟩]
        | none => [])

/-- The bytes 11 on of a GRANT (R180). -/
def portBytes : GrantPart → List Byte
  | .veh total links zone eBat eRes wear =>
    leBytes 2 (BitVec.ofInt 16 total).toNat
      ++ [links.veh, links.eng, links.bat, links.trc, links.brk].map (fun x => BitVec.ofNat 8 x.code)
      ++ [match zone with | .none => 0 | .quiet => 1 | .emissionFree => 2]
      ++ leBytes 2 eBat ++ leBytes 2 eRes
      ++ [wear.liningF, wear.liningR, wear.batThru, wear.engStart, wear.engRun].map
        (fun x => BitVec.ofNat 8 x.code)
  | .eng command pG unmet holder =>
    [match command with | .none => 0 | .start => 1 | .stop => 2] ++ leBytes 2 (BitVec.ofInt 16 pG).toNat
      ++ [if unmet then 1 else 0, BitVec.ofNat 8 holder]
  | .bat pB => leBytes 2 (BitVec.ofInt 16 pB).toNat
  | .trc setpoint => leBytes 2 (BitVec.ofInt 16 setpoint).toNat
  | .brk fF fR r share =>
    leBytes 2 (BitVec.ofInt 16 fF).toNat ++ leBytes 2 (BitVec.ofInt 16 fR).toNat
      ++ leBytes 2 (BitVec.ofInt 16 r).toNat ++ [BitVec.ofInt 8 share]

/-- The bytes 2 on of a frame the part sends, in the layouts of R180. -/
def Device.layout (d : Device) (n : NoticeSet) : TxFrame → List Byte
  | .grant mode link part =>
    [BitVec.ofNat 8 mode.code, BitVec.ofNat 8 link.code] ++ leBytes 2 n.pulses.toNat
      ++ [n.held, n.lostPorts, n.warnItems, n.limitItems, n.invalidItems] ++ portBytes part
  | .answer kind tag code body => [kind, tag, BitVec.ofNat 8 code.code] ++ body.flatMap fun f => leBytes f.width f.value
  | .serviceStatus =>
    [BitVec.ofNat 8 d.mode.mode.code] ++ leBytes 2 n.pulses.toNat ++ [n.held]
      ++ leBytes 2 (d.ring.head - d.ring.tail) ++ leBytes 2 d.ring.missed
      ++ [if d.nvBusy then 1 else 0,
        match d.ring.drain with | .idle => 0 | .oneShot => 1 | .continuous => 2]
      ++ leBytes 2 d.ring.remaining ++ leBytes 4 d.runClock.toNat
  | .ringRecord slot r =>
    [BitVec.ofNat 8 slot] ++ leBytes 2 r.seq.toNat ++ [BitVec.ofNat 8 r.kind.code, BitVec.ofNat 8 r.subkind]
      ++ [(if r.subject.isSome then 1 else 0) ||| (if r.value1.isSome then 2 else 0)
        ||| (if r.value2.isSome then 4 else 0)]
      ++ [BitVec.ofNat 8 (r.subject.getD 0)]
      ++ leBytes 4 (BitVec.ofInt 32 (r.value1.getD 0)).toNat ++ leBytes 4 (BitVec.ofInt 32 (r.value2.getD 0)).toNat
      ++ leBytes 4 r.clock.toNat ++ leBytes 4 r.dist

/-- An answer that a write's completion owes. -/
structure Owed where
  kind : Byte
  tag : Byte
  code : AnswerCode
  body : List Field

/-- The answer that the completion of a write owes, if a request awaits it (R147, R165, R184). -/
def Device.owed (d : Device) : NvWrite → Option Owed
  | .wear i n =>
    (d.wear.get i).awaiting.map fun a => ⟨if a.isSet then 0x20 else 0x1F, a.tag, .done, [⟨1, i.code⟩, ⟨4, n⟩]⟩
  | .block _ =>
    match d.nv.blockAwaiting with
    | none => none
    | some (.configWrite tag n v code) => some ⟨0x18, tag, code, [⟨1, n⟩, ⟨4, v⟩]⟩
    | some (.ringConfig tag r clear code) =>
      some ⟨0x1A, tag, code,
        [⟨1, r.mode⟩, ⟨2, r.threshold⟩, ⟨2, r.enables⟩, ⟨2, r.slip⟩, ⟨2, r.check⟩, ⟨2, r.start⟩, ⟨2, r.brake⟩,
          ⟨1, if clear then 1 else 0⟩]⟩

/-- The write engine after a flag is set: an idle one starts the write at once, a busy one leaves it pending (R149). -/
abbrev Nv.started (n : Nv) (w : NvWrite) : Prop := n.writing = some w ∧ n.left = some 5

end Sys2Proof.Machine

namespace Sys2Proof

/-- The request a command makes: its port, kind code and tag (R176). -/
def Instr.request : Instr → Option Machine.Request
  | .unknownRequest p k t => some ⟨p, k, t⟩
  | .claim p t .. => some ⟨p, 0x10, t⟩
  | .release p t .. => some ⟨p, 0x11, t⟩
  | .zoneAdd p t .. => some ⟨p, 0x12, t⟩
  | .zoneCancel p t .. => some ⟨p, 0x13, t⟩
  | .routeReset p t => some ⟨p, 0x14, t⟩
  | .resync p t .. => some ⟨p, 0x15, t⟩
  | .note p t .. => some ⟨p, 0x16, t⟩
  | .ackNotice p t .. => some ⟨p, 0x17, t⟩
  | .configWrite p t .. => some ⟨p, 0x18, t⟩
  | .configRead p t .. => some ⟨p, 0x19, t⟩
  | .ringConfig p t .. => some ⟨p, 0x1A, t⟩
  | .drain p t .. => some ⟨p, 0x1B, t⟩
  | .drainStop p t => some ⟨p, 0x1C, t⟩
  | .ringAck p t .. => some ⟨p, 0x1D, t⟩
  | .wearRead p t .. => some ⟨p, 0x1E, t⟩
  | .wearReset p t .. => some ⟨p, 0x1F, t⟩
  | .wearSet p t .. => some ⟨p, 0x20, t⟩
  | .counterRead p t .. => some ⟨p, 0x21, t⟩
  | .engineUnlock p t => some ⟨p, 0x22, t⟩
  | _ => none

/-- The ports that may send a command's request (the table of R176). -/
def Instr.sentBy : Instr → Port → Bool
  | .zoneAdd .., p => decide (p = .veh)
  | .zoneCancel .., p => decide (p = .veh)
  | .routeReset .., p => decide (p = .veh)
  | .resync .., p => decide (p = .veh) || decide (p = .svc)
  | .configWrite .., p => decide (p = .svc)
  | .configRead .., p => decide (p = .svc)
  | .ringConfig .., p => decide (p = .svc)
  | .drain .., p => decide (p = .svc)
  | .drainStop .., p => decide (p = .svc)
  | .ringAck .., p => decide (p = .svc)
  | .wearRead .., p => decide (p = .svc)
  | .wearReset .., p => decide (p = .svc)
  | .wearSet .., p => decide (p = .svc)
  | .counterRead .., p => decide (p = .svc)
  | .engineUnlock .., p => decide (p = .svc)
  | _, _ => true

/-- A command of the reset line or of power. -/
def Instr.isReset : Instr → Bool
  | .reset _ => true
  | .resetAsserted => true
  | _ => false

/-- A change of one of the two lines. -/
def Instr.isLine : Instr → Bool
  | .ignitionLineChange _ => true
  | .doorLineChange _ => true
  | _ => false

end Sys2Proof

/-! ## The machine: steps, time, reset -/

/-- A step runs the command at the front of the queue on the queue's rest. -/
def Obligations.StepRunsFront : Prop :=
  ∀ (c : Instr) (s : State), step { s with pending := c :: s.pending } = exec c s

/-- With no command waiting the part's clock goes on (the model's choice: logs 1 and 3). Where no expiry is due 1 ms passes:
every timer that runs has 1 ms less, the engine's run-time and its time in CRANKING 1 ms more, and all else stands. Where
expiries are due, of the timers that have come to 0 and of the run clock's period of 10 ms, one of them is the next
command and no time passes. A part held in reset idles. The millisecond also clears the mark of a block write that may still
give way (blockFresh inside Device.timed, the model's own: log 31). -/
def Obligations.EmptyQueuePassesTime : Prop :=
  ∀ (s : State), s.pending = [] →
    let d := s.dev
    let due :=
      (partTimers.filter fun x => decide (x.read d = some 0)).map PartTimer.expiry
        ++ (if d.clockLeft = 0 then [.runClockTick] else [])
    (d.inReset = true → step s = .next s)
      ∧ (d.inReset = false → due = [] →
          ∃ t, step s = .next t ∧ t.pending = []
            ∧ (∀ x ∈ partTimers, x.read t.dev = (x.read d).map fun ms => ms - 1)
            ∧ t.dev.clockLeft = d.clockLeft - 1
            ∧ t.dev.seq.runTime = d.seq.runTime.map (fun ms => ms + 1)
            ∧ t.dev.seq.crankTime = (if d.seq.state = .cranking then d.seq.crankTime + 1 else d.seq.crankTime)
            ∧ t.dev.arbiter.stack = d.arbiter.stack
            ∧ (∀ k ∈ ClaimKind.all, t.dev.claim k = { d.claim k with age := (t.dev.claim k).age })
            ∧ t.dev = d.timed t.dev)
      ∧ (d.inReset = false → due ≠ [] →
          ∃ i ∈ due,
            step s =
              .next
                ⟨[i],
                  { d with
                    clockLeft := if i = .runClockTick then 10 else d.clockLeft,
                    free := if due.length = 1 then d.free else d.free + 1 }⟩)

/-- The state after the power-on reset of a part as it leaves production (the model's choice of store and lines: log 5) has
every invariant stated below. -/
def Obligations.ResetStateIsSound : Prop :=
  ∃ d, State.reset = ⟨[], d⟩ ∧ d.params.sound ∧ d.linksSound ∧ d.valuesSound ∧ d.afterTakes.cycleIn.inRange
    ∧ d.modeSound ∧ d.modeSettled ∧ d.parkSound ∧ zonesSound d.route.zones
    ∧ zonesPlaced d.dRouteM d.route.zones ∧ d.energySound ∧ d.zoneStopSound ∧ d.arbiter.sound ∧ d.raisesSound
    ∧ d.seqSound ∧ d.wearSound ∧ d.nvSound ∧ d.ring.sound ∧ d.drainSettled ∧ d.txSound ∧ d.svcSound

/-- The end of a reset leaves every block as its table "after reset" gives it: the mode controller and links, the SVC link
and the transmit queues, the allocator, account, route, claims and sequencer, the configuration and wear items as loaded
from the store, whose cells stand as they were or as a write cut off left them (R150, R152), the notice sets with what
loading and waking raise (R24, R151, R161, R172, R182), and the ring with the records these store, its sampling counters
at their intervals and its drain idle (R22, R154, R171). With the ignition ON the part wakes (R22, R25, R37). Not said: the
level of an IDLE claim (log 19), the ring's tag, clamped and lastSeq (log 29), the count of free values (log 27). The time
in CRANKING starts at 0 (log 23); failed cells are loaded in item order (log 33). That the records of the reset may hold
RING_FILL, which R172 does not name, is read from R161 (log 21); which cells pass their check is the model's layout (log
16), and the cleared blockFresh its own mark (log 31). That a record's subject is present in every kind, also at 0, is read
from R154 (log 35). -/
def Obligations.ResetState : Prop :=
  ∀ (cause : ResetCause) (s : State),
    Yields (.reset cause) s fun e =>
      let good := fun i => (e.nv.cells.get i).passes i
      let wakes := s.dev.ignLine
      let defaulted := !e.nv.block.passes
      let at? : Item → WearState → Bool := fun i x => good i && decide ((e.wear.get i).state = x)
      let split := fun i => decide (e.params.get (33 + 2 * i.code) < e.params.get (34 + 2 * i.code))
      let made : List (Word16 → Record) :=
        [fun n => ⟨n, .reset, 0, 0, 0, some cause.code, none, none⟩]
          ++ (if defaulted then [fun n => ⟨n, .config, 2, 0, 0, some 0, some 0, some 0⟩] else [])
          ++ (Item.all.filter fun i => !good i).map
            (fun i n => ⟨n, .wear, 3, 0, 0, some i.code, some 0, some 2⟩)
          ++ (if wakes && (e.params.get 66).testBit 1 then
              [fun n => ⟨n, .mode, 1, 0, 0, some 3, some 0, some 0⟩] else [])
      e.inReset = false ∧ e.doorLine = s.dev.doorLine ∧ e.ignLine = s.dev.ignLine
        ∧ e.mode =
          { mode := if wakes then .waking else .park, ignition := s.dev.ignLine, debounce := none, flags := none,
            doorAgree := none, doorDisagree := none, reported := false, wake := if wakes then some 2000 else none,
            dwell := 0, shutdown := none, origin := none, keyOffRaised := false, xcvrWake := wakes }
        ∧ (∀ m ∈ Member.all, e.link m = ⟨.silent, none, 0, [], none, 0, 0, false, 0, ⟨0, 0, 0, 0, 0, 0, 0⟩⟩)
        ∧ e.svc = ⟨none, none, 0⟩ ∧ (∀ p ∈ Port.all, e.txq p = ⟨[], none, 0⟩)
        ∧ e.account = ⟨false, 0⟩ ∧ e.route = ⟨0, [], e.params.get 8 * 1000000, false⟩
        ∧ (∀ k ∈ ClaimKind.all, (e.claim k).state = .idle ∧ (e.claim k).load = 0 ∧ (e.claim k).age = none)
        ∧ e.arbiter.stack = []
        ∧ (e.alloc =
            { timer := if wakes then some 10 else none, prev := ⟨0, 0, 0, 0, 0, 0, 0⟩, rPrev := 0,
              tractionLimited := false, duration := 0, zoneLimp := false, shortfall := false, episode := none,
              regenTotal := 0, frictionTotal := 0, applyCount := 0 })
        ∧ (e.seq =
            { state := .off, attempts := 0, crank := none, gap := none, cool := none, stop := none, runTime := none,
              offDwell := none, policy := if wakes then some 100 else none, engine := .stopped, crankTime := 0 })
        ∧ e.params = e.nv.block.load ∧ e.runClock = 0 ∧ e.clockLeft = 10
        ∧ e.nv =
          { cells := e.nv.cells, block := e.nv.block, writing := none, left := none, blockPending := false,
            blockAwaiting := none, blockFresh := false }
        ∧ ((e.nv.cells = s.dev.nv.cells ∧ e.nv.block = s.dev.nv.block)
            ∨ s.dev.inReset = false
              ∧ ∃ w ∈ s.dev.nv.writing,
                e.nv.cells = (s.dev.nv.land w).cells ∧ e.nv.block = (s.dev.nv.land w).block)
        ∧ (∀ i ∈ Item.all,
            e.wear.get i =
              (if good i then
                ⟨(e.nv.cells.get i).count.toNat, 0, stateAt e.params i (e.nv.cells.get i).count.toNat, false, none⟩
              else ⟨0, 0, .invalid, false, none⟩))
        ∧ e.ring =
          { slots := e.ring.slots, head := made.length, tail := 0, cursor := 0, seq := BitVec.ofNat 16 made.length,
            missed := 0, sampSlip := e.params.get 67, sampCheck := e.params.get 68, sampStart := e.params.get 69,
            sampBrake := e.params.get 70, drain := .idle, remaining := 0, reload := 0, tag := e.ring.tag, sent := 0,
            clamped := e.ring.clamped, lastSeq := e.ring.lastSeq }
        ∧ e.ring.slots.length = 256
        ∧ (∀ n ∈ List.range 256, e.ring.slots.getD n none = (made[n]?).map fun r => r (BitVec.ofNat 16 n))
        ∧ ∀ p ∈ Port.all,
            let heard : Item → Bool := fun i => decide (p = .veh) || decide (i.member = p)
            let warns := itemSet fun i => heard i && (at? i .warned || at? i .limit && split i)
            let limits := itemSet fun i => heard i && at? i .limit
            let invalids := itemSet fun i => heard i && !good i
            let top := decide (p = .veh) || decide (p = .svc)
            e.notices.get p =
              { pulses := if wakes = true ∧ p ≠ .svc then 1 else 0,
                held :=
                  BitVec.ofNat 8
                    ((if warns = 0 then 0 else 2) + (if limits = 0 then 0 else 4) + (if invalids = 0 then 0 else 8)
                      + (if top && defaulted then 64 else 0)
                      + (if top && decide (1 ≤ e.params.get 65) && decide (e.params.get 65 ≤ made.length) then 128
                        else 0)),
                lostPorts := 0, warnItems := warns, limitItems := limits, invalidItems := invalids }

/-- The assertion of the reset line, or the loss of power, holds the part in reset; a cell being written keeps its
contents or takes the captured ones, and no other cell changes (R22, R150; log 7). Held there, no command acts but a
reset and the reading of a line (R22; the model's choice: log 6). -/
def Obligations.HeldInReset : Prop :=
  ∀ (c : Instr) (s : State),
    (s.dev.inReset = false →
        Yields .resetAsserted s fun e =>
          e.inReset = true ∧ e.ignLine = s.dev.ignLine ∧ e.doorLine = s.dev.doorLine
            ∧ (∀ p ∈ Port.all, e.txq p = ⟨[], none, 0⟩)
            ∧ ((e.nv.cells = s.dev.nv.cells ∧ e.nv.block = s.dev.nv.block)
                ∨ ∃ w ∈ s.dev.nv.writing,
                    e.nv.cells = (s.dev.nv.land w).cells ∧ e.nv.block = (s.dev.nv.land w).block))
      ∧ (s.dev.inReset = true → c ≠ .reset .powerOn → c ≠ .reset .resetLine → c.isLine = false → exec c s = .next s)
      ∧ (s.dev.inReset = true → ∀ b,
          exec (.ignitionLineChange b) s = .next { s with dev := { s.dev with ignLine := b } }
            ∧ exec (.doorLineChange b) s = .next { s with dev := { s.dev with doorLine := b } })

/-! ## Member links: arrivals (chapter 1) -/

/-- A STATUS frame that is not accepted: a duplicate changes nothing; a sequence error is counted, sets
freeze and re-bases the expected value (R3); in LOST with COMMANDED resync STATUS frames are ignored (R12); in PARK
without the wake flag a STATUS frame has no effect (R5). -/
def Obligations.StatusNotAccepted : Prop :=
  ∀ (alive : BitVec 4) (body : StatusBody) (s : State),
    s.dev.inReset = false →
      (s.dev.mode.mode = .park → body.wake = false → exec (.statusFrame alive body) s = .next s)
        ∧ (s.dev.mode.mode ≠ .park → s.dev.ignoresStatus body.member = true →
            exec (.statusFrame alive body) s = .next s)
        ∧ (s.dev.mode.mode ≠ .park → s.dev.ignoresStatus body.member = false →
            ∀ e ∈ (s.dev.link body.member).expected,
              (alive - e + 1 = 0 → exec (.statusFrame alive body) s = .next s)
                ∧ (4 ≤ (alive - e + 1).toNat →
                    let l := s.dev.link body.member
                    Becomes (.statusFrame alive body) s
                      (s.dev.setLink body.member
                        { l with
                          expected := some (alive + 1), freeze := true, cleanRun := 0,
                          accepted := if l.state = .aligning then 0 else l.accepted,
                          counters := { l.counters with sequence := up16 l.counters.sequence } })))

/-- A bad frame is discarded: on SVC and in PARK without any effect; elsewhere it is counted and offered, and a STATUS
frame sets freeze and spoils the accepted count of an ALIGNING link (R2, R19). -/
def Obligations.BadFrameCounted : Prop :=
  ∀ (p : Port) (kind : Byte) (s : State), s.dev.inReset = false →
    (p = .svc ∨ s.dev.mode.mode = .park → exec (.badFrameReceived p kind) s = .next s)
      ∧ (∀ m ∈ p.member, kind = 1 → s.dev.ignoresStatus m = true → exec (.badFrameReceived p kind) s = .next s)
      ∧ (∀ m ∈ p.member, s.dev.mode.mode ≠ .park → (kind = 1 → s.dev.ignoresStatus m = false) →
          let l := s.dev.link m
          Becomes (.badFrameReceived p kind) s
            ((s.dev.setLink m
                { l with
                  counters := { l.counters with check := up16 l.counters.check },
                  freeze := l.freeze || decide (kind = 1),
                  cleanRun := if kind = 1 then 0 else l.cleanRun,
                  accepted := if kind = 1 ∧ l.state = .aligning then 0 else l.accepted }).offer
              ⟨.checkError, if kind = 1 then 0 else 1, m.number, up16 l.counters.check, 0⟩))

/-- An accepted STATUS frame on an ALIGNED or SUSPECT link goes into the alignment store behind what is unread there; a
full store skips its oldest; a gap and a skip are counted and set freeze (R3, R4, R6, R14). No other link changes. A
frame whose hand-off brings the part into PARK leaves what PARK entry gives (R35; the model's order: logs 8 and 10). -/
def Obligations.AcceptedFrameStored : Prop :=
  ∀ (alive : BitVec 4) (body : StatusBody) (s : State),
    s.dev.acceptsStatus alive body → s.dev.mode.mode ≠ .park →
    (s.dev.link body.member).state = .aligned ∨ (s.dev.link body.member).state = .suspect →
      Yields (.statusFrame alive body) s fun e =>
        e.params = s.dev.params ∧ e.runClock = s.dev.runClock ∧ e.ignLine = s.dev.ignLine
          ∧ e.doorLine = s.dev.doorLine
          ∧ (body.member = .trc → e = { s.dev with links := e.links })
          ∧ (body.member = .brk →
              e =
                { s.dev with
                  links := e.links, wear := e.wear, nv := e.nv, ring := e.ring, tx := e.tx, svc := e.svc,
                  notices := e.notices, free := e.free })
          ∧ (e.mode.mode ≠ .park →
              e.link body.member =
                  (s.dev.link body.member).stores (s.dev.depthOf body.member) alive ⟨alive, clampStatus body⟩
                ∧ ∀ k ∈ Member.all, k ≠ body.member → e.link k = s.dev.link k)

/-- The first accepted frame of a SILENT link, and of a LOST one with AUTO resync, makes it ALIGNING with the accepted
count at 1 and the frame alone in the store (R8, R11). In ALIGNING each accepted frame is judged and stored as on a usable
link and counts, and the eighth makes the link ALIGNED with freeze clear and its counts at 0 (R3, R4, R6, R8, R14, R15); a
freeze that the eighth frame's own gap or skip has set is then clear too (for the skip the model's order: log 34). -/
def Obligations.LinkAligns : Prop :=
  ∀ (alive : BitVec 4) (body : StatusBody) (s : State),
    s.dev.acceptsStatus alive body → s.dev.mode.mode ≠ .park →
      let l := s.dev.link body.member
      let stored : Link → Link := fun x => x.stores (s.dev.depthOf body.member) alive ⟨alive, clampStatus body⟩
      (l.state = .silent ∨ l.state = .lost →
          Yields (.statusFrame alive body) s fun e =>
            e.mode.mode ≠ .park →
              e.link body.member = stored { l with state := .aligning, unread := [], accepted := 1 }
                ∧ (e.link body.member).unread = [⟨alive, clampStatus body⟩]
                ∧ ∀ k ∈ Member.all, k ≠ body.member → e.link k = s.dev.link k)
        ∧ (l.state = .aligning →
          Yields (.statusFrame alive body) s fun e =>
            e.mode.mode ≠ .park →
              e.link body.member =
                  (if l.accepted < 7 then { stored l with accepted := l.accepted + 1 }
                  else
                    { stored l with
                      state := .aligned, freeze := false, cleanRun := 0, missRun := 0, recovery := 0, accepted := 0 })
                ∧ ∀ k ∈ Member.all, k ≠ body.member → e.link k = s.dev.link k)

/-- A STATUS frame with the wake flag wakes the part from PARK, and is the first frame of its SILENT link; the other
links sleep on (R5, R8, R23, R25, R37, R132; the link before the mode controller: log 11). -/
def Obligations.WakeFrameWakes : Prop :=
  ∀ (alive : BitVec 4) (body : StatusBody) (s : State),
    s.dev.acceptsStatus alive body → s.dev.mode.mode = .park →
      Yields (.statusFrame alive body) s fun e =>
        e.mode.mode = .waking ∧ e.mode.xcvrWake = true ∧ e.mode.wake = some 2000 ∧ e.alloc.timer = some 10
          ∧ e.seq.policy = some 100
          ∧ ((s.dev.link body.member).state = .silent →
              (e.link body.member).state = .aligning ∧ (e.link body.member).accepted = 1
                ∧ (e.link body.member).unread = [⟨alive, clampStatus body⟩]
                ∧ (e.link body.member).expected = some (alive + 1))
          ∧ (∀ k ∈ Member.all, k ≠ body.member → e.link k = s.dev.link k)
          ∧ e.params = s.dev.params ∧ e.runClock = s.dev.runClock ∧ e.ignLine = s.dev.ignLine
          ∧ e.doorLine = s.dev.doorLine
          ∧ e.route.stopRaised =
              (if s.dev.route.stopRaised = stopCondition e.params e.dRouteM e.route.zones then s.dev.route.stopRaised
                else stopCondition e.params e.dRouteM e.route.zones)

/-! ## Owners of an accepted frame (R4) -/

/-- An accepted BAT frame anchors an UNANCHORED account at E_rep, and is integrated into an ANCHORED one within 0 to
E_cap, which re-anchors at E_rep with DRIFT at BAT where the two differ by more than E_drift (R84 to R86). -/
def Obligations.EnergyAccountFollowsBat : Prop :=
  ∀ (alive : BitVec 4) (wake : Bool) (pBd pBc pMeas eBms : Word16) (s : State),
    s.dev.acceptsStatus alive (.bat wake pBd pBc pMeas eBms) →
      Yields (.statusFrame alive (.bat wake pBd pBc pMeas eBms)) s fun e =>
        let eRep := min (eBms.toNat * 10000) s.dev.params.eCap
        let eInt := min (max ((s.dev.account.eBat : Int) - pMeas.toInt) 0) s.dev.params.eCap
        e.account.anchored = true
          ∧ (s.dev.account.anchored = false → e.account.eBat = eRep)
          ∧ (s.dev.account.anchored = true → |eInt - eRep| ≤ s.dev.params.eDrift → (e.account.eBat : Int) = eInt)
          ∧ (s.dev.account.anchored = true → s.dev.params.eDrift < |eInt - eRep| →
              e.account.eBat = eRep ∧ (e.notices.get .bat).hasPulse .drift = true)
          ∧ e.route.dRoute = s.dev.route.dRoute ∧ e.route.zones = s.dev.route.zones ∧ e.params = s.dev.params
          ∧ e.nv.cells = s.dev.nv.cells ∧ e.nv.block = s.dev.nv.block ∧ e.runClock = s.dev.runClock

/-- An accepted VEH frame adds its increment to D_route, up to 4,294,967,295 (R89). While D_route_m stays, the queue and the
reserve stay. Where it changes, the entries that it has passed leave the queue, those it has reached are INSIDE, the others
and the order stand (R92); the reserve is taken anew (R103); VEH is given ZONE_ENTERED where an entry becomes INSIDE and
ZONE_LEFT where a passage leaves none of its kind INSIDE (R93; judged as each entry is evaluated: log 13). With the
ignition OFF, a clear wake flag in WAKING, LIMITED, RUN or HALT makes the mode SHUTDOWN (R33), or PARK at once where the
sequencer and the write engine allow it (R34). The frame's flags are the latest VEH flags (R21); where they end no mode so,
a usable link's door and park brake flags count at once: an open door makes LIMITED and RUN HALT, and the timers of the door
conditions follow (R29 to R31). The account, the wear table, the configuration and the store stay. -/
def Obligations.OdometerFollowsVeh : Prop :=
  ∀ (alive : BitVec 4) (wake door park : Bool) (pDem : Word16) (dist : Byte) (s : State),
    s.dev.acceptsStatus alive (.veh wake door park pDem dist) → s.dev.route.dRoute ≤ 4294967295 →
      Yields (.statusFrame alive (.veh wake door park pDem dist)) s fun e =>
        let zs := s.dev.route.zones
        let dM := e.route.dRoute / 100
        let moved := decide (dM ≠ s.dev.route.dRoute / 100)
        let enters := moved && zs.any fun z => !z.inside && decide (z.start ≤ dM)
        let leaves :=
          moved && (List.range zs.length).any fun n =>
            zs[n]?.any fun z =>
              decide (z.start + z.length ≤ dM)
                && !(evaluated dM (zs.take n) ++ zs.drop (n + 1)).any fun y => decide (y.kind = z.kind) && y.inside
        e.route.dRoute = min (s.dev.route.dRoute + dist.toNat) 4294967295
          ∧ (moved = false → e.route.zones = zs ∧ e.route.eRes = s.dev.route.eRes)
          ∧ (moved = true → e.route.zones = evaluated dM zs ∧ e.route.eRes = reserve s.dev.params dM e.route.zones)
          ∧ (e.mode.mode ≠ .park →
              (e.notices.get .veh).hasPulse .zoneEntered
                  = ((s.dev.notices.get .veh).hasPulse .zoneEntered || enters)
                ∧ (e.notices.get .veh).hasPulse .zoneLeft = ((s.dev.notices.get .veh).hasPulse .zoneLeft || leaves))
          ∧ (s.dev.mode.mode ≠ .park → s.dev.mode.mode ≠ .shutdown → s.dev.mode.ignition = false → wake = false →
              (e.mode.mode = .shutdown ∧ e.mode.keyOffRaised = true ∧ e.mode.shutdown = some 30000
                  ∧ e.mode.wake = none ∧ e.mode.doorAgree = none ∧ e.mode.origin = none
                  ∧ (e.seq.state = .off ∨ e.seq.state = .lockedOut → s.dev.nvBusy = true))
                ∨ (e.mode.mode = .park ∧ s.dev.nvBusy = false
                  ∧ (s.dev.seq.state = .off ∨ s.dev.seq.state = .lockedOut)))
          ∧ (s.dev.mode.mode ≠ .park → s.dev.mode.mode ≠ .shutdown → s.dev.mode.ignition = true ∨ wake = true →
              e.mode.mode ≠ .shutdown ∧ e.mode.mode ≠ .park)
          ∧ (e.mode.mode ≠ .park → e.mode.flags = some ⟨door, park, wake⟩)
          ∧ (s.dev.mode.mode ≠ .park → s.dev.usable .veh = true →
              s.dev.mode.mode = .shutdown ∨ s.dev.mode.ignition = true ∨ wake = true →
              let x := { s.dev with mode := { s.dev.mode with flags := some ⟨door, park, wake⟩ } }
              e.mode = x.doorsTaken
                ∧ (s.dev.mode.mode = .limited ∨ s.dev.mode.mode = .run → s.dev.doorLine = true ∨ door = true →
                    e.mode.mode = .halt))
          ∧ e.account = s.dev.account ∧ e.wear = s.dev.wear ∧ e.params = s.dev.params ∧ e.nv = s.dev.nv
          ∧ e.runClock = s.dev.runClock

/-- Each accepted frame feeds its wear items once: the remainder grows by the feed, and at the quantum one count is made,
the count stopping at 4,294,967,295; a start that the frame completes feeds ENG_START (R122, R137, R138). An INVALID item
stays so; another's state is that of its count and marks (R139, R141), and a count made on it is pending or being written
(R138, R149). Crossing a mark holds WEAR_WARN or WEAR_LIMIT, with the item, at VEH and at the item's member, and a
crossing of both marks holds both (R140). -/
def Obligations.WearItemsFed : Prop :=
  ∀ (alive : BitVec 4) (body : StatusBody) (s : State),
    s.dev.acceptsStatus alive body → s.dev.wearSound → s.dev.seqSound →
      Yields (.statusFrame alive body) s fun e =>
        ∀ i ∈ Item.all,
          let w := s.dev.wear.get i
          let x := e.wear.get i
          let r := w.rem + feedOf s.dev body i
          (if r < i.quantum then x.count = w.count ∧ x.rem = r
            else x.count = (if w.count < 4294967295 then w.count + 1 else w.count) ∧ x.rem = r - i.quantum)
            ∧ x.state = (if w.state = .invalid then .invalid else stateAt s.dev.params i x.count)
            ∧ (w.state ≠ .invalid → x.count ≠ w.count → x.pending = true ∨ e.nv.writing = some (.wear i x.count))
            ∧ (∀ p ∈ [Port.veh, i.member],
                (w.state = .normal → x.state ≠ .normal → x.state ≠ .limit →
                    (e.notices.get p).warnsOf i = true)
                  ∧ (w.state = .normal → x.state = .limit →
                    (e.notices.get p).warnsOf i = true ∧ (e.notices.get p).limitsOf i = true)
                  ∧ (w.state = .warned → x.state = .limit → (e.notices.get p).limitsOf i = true))

/-- What the sequencer does with the engine state of an accepted ENG frame, in every link state that accepts one (R119): a
start completes, a stop completes, a stall is taken, an engine is adopted, with the directive followed at once outside
WAKING, or nothing but the latest state changes (R122, R127, R128, R131). The frame that makes the link ALIGNED has the start
condition evaluated after it (R119, R121), or the directive where the mode has changed with it (R26, R27, R120). A wake frame
in PARK adopts too, and follows no directive (R5, R128, R132; log 22). The off-dwell runs on through a start (the model's
choice among the spec's sentences: log 30); the eighth frame is handed over before the link is ALIGNED (log 34). -/
def Obligations.SequencerFollowsEng : Prop :=
  ∀ (alive : BitVec 4) (wake : Bool) (code : BitVec 2) (pGen : Word16) (s : State),
    s.dev.acceptsStatus alive (.eng wake code pGen) →
      Yields (.statusFrame alive (.eng wake code pGen)) s fun e =>
        let d := s.dev
        let l := d.link .eng
        let q : Sequencer := { d.seq with engine := EngineState.ofCode code }
        let halts := (code = 0 ∨ code = 3)
          ∧ (d.seq.state = .running ∨ d.seq.state = .cooldown ∨ d.seq.state = .stopping)
        (d.mode.mode ≠ .park →
            d.usable .eng = true ∨ (l.state = .aligning ∧ l.accepted < 7)
              ∨ ((l.state = .silent ∨ l.state = .lost) ∧ d.modeSettled) →
              (halts → e.mode.mode ≠ .park) → e.seq = d.reported code)
          ∧ (d.mode.mode ≠ .park → l.state = .aligning → 7 ≤ l.accepted → e.mode.mode ≠ .park →
              let x := { d with seq := d.reported code, links := e.links, mode := e.mode }
              (e.link .eng).state = .aligned
                ∧ e.seq = if e.mode.mode = d.mode.mode then x.startedIfOff else x.directed)
          ∧ (d.mode.mode = .park → d.seq.state = .off →
              e.seq = { (if code = 2 then q.adopted else q) with policy := some 100 })

/-! ## The service link, the clock -/

/-- A STATUS frame on SVC restarts the presence timer at 5 s and starts the status timer at 100 ms where service was
absent; the presence timer's expiry ends both (R19, R178). The status timer's expiry restarts it and leaves one
SERVICE_STATUS waiting, if the queue has room (R175, R178). The run clock counts one period (R155). -/
def Obligations.ServiceLinkAndClock : Prop :=
  ∀ (s : State), s.dev.inReset = false →
    Becomes .svcStatusFrame s
        { s.dev with
          svc := ⟨some 5000, if s.dev.svc.presence.isSome then s.dev.svc.status else some 100, s.dev.svc.overruns⟩ }
      ∧ (s.dev.svc.presence.isSome →
          Becomes .servicePresenceExpiry s { s.dev with svc := ⟨none, none, s.dev.svc.overruns⟩ })
      ∧ (s.dev.svc.status.isSome →
          let q := s.dev.tx.svc
          let full := q.waiting.any (fun f => decide (f = .serviceStatus)) || decide (8 ≤ q.frames.length)
          Becomes .serviceStatus s
            { s.dev with
              svc := { s.dev.svc with status := some 100 },
              tx :=
                { s.dev.tx with svc := { q with frames := if full then q.frames else q.frames ++ [.serviceStatus] } } })
      ∧ Becomes .runClockTick s { s.dev with runClock := s.dev.runClock + 1 }

/-! ## Allocation (chapters 1, 3 and 4) -/

/-- An allocation cycle takes one frame from each member port by its link's state, with the change of state the take
causes (R7, R9, R10, R15). A link lost by its tenth repeated take is reported: LINK_LOST at VEH with its port (R10); its
claims dropped (R116); at a BAT loss the account UNANCHORED (R87); at an ENG loss the sequencer OFF, unless LOCKED_OUT
(R129); at a VEH loss with the ignition OFF the mode SHUTDOWN (R33), and with it ON a loss of VEH, of TRC, or of the last of
BAT and ENG ends RUN (R28). A cycle that brings the part into PARK leaves what PARK entry gives. -/
def Obligations.TakesByState : Prop :=
  ∀ (s : State), s.dev.inReset = false → s.dev.alloc.timer.isSome →
    Yields .allocationCycle s fun e =>
      e.params = s.dev.params ∧ e.wear = s.dev.wear ∧ e.nv = s.dev.nv ∧ e.route.dRoute = s.dev.route.dRoute
        ∧ e.route.zones = s.dev.route.zones ∧ e.account.eBat = s.dev.account.eBat ∧ e.runClock = s.dev.runClock
        ∧ e.ignLine = s.dev.ignLine ∧ e.doorLine = s.dev.doorLine
        ∧ (e.mode.mode ≠ .park → ∀ m ∈ Member.all,
        let l := s.dev.link m
        let missed := { l.counters with repeats := up16 l.counters.repeats }
        e.link m =
          (match l.state, l.unread with
            | .silent, _ => l
            | .lost, _ => l
            | .aligning, [] => l
            | .aligning, f :: rest => { l with unread := rest, taken := some f }
            | .aligned, [] =>
              { l with
                state := if 3 ≤ l.missRun + 1 then .suspect else .aligned, missRun := l.missRun + 1,
                recovery := if 3 ≤ l.missRun + 1 then 0 else l.recovery, freeze := true, cleanRun := 0,
                counters := missed }
            | .suspect, [] =>
              if 10 ≤ l.missRun + 1 then
                { state := .lost, expected := none, accepted := 0, unread := [], taken := none, missRun := 0,
                  recovery := 0, freeze := true, cleanRun := 0,
                  counters := { missed with losses := up16 l.counters.losses } }
              else
                { l with missRun := l.missRun + 1, recovery := 0, freeze := true, cleanRun := 0, counters := missed }
            | state, f :: rest =>
              { l with
                state := if state = .suspect ∧ 2 ≤ l.recovery + 1 then .aligned else state,
                unread := rest, taken := some f, missRun := 0,
                recovery :=
                  if state = .suspect then (if 2 ≤ l.recovery + 1 then 0 else l.recovery + 1) else l.recovery,
                freeze := l.freeze && decide (l.cleanRun + 1 < 20),
                cleanRun :=
                  if l.freeze then (if l.cleanRun + 1 < 20 then l.cleanRun + 1 else 0) else l.cleanRun }))
        ∧ (∀ m ∈ Member.all, (s.dev.link m).state = .suspect → (s.dev.link m).unread = [] → 9 ≤ (s.dev.link m).missRun →
            (e.mode.mode ≠ .park →
                (e.notices.get .veh).hasHeld .linkLost = true
                  ∧ (e.notices.get .veh).lostPorts.getLsbD (m.number - 1) = true
                  ∧ (m = .bat → e.account.anchored = false)
                  ∧ (s.dev.arbiter.sound → ∀ k ∈ ClaimKind.all, k.owner = some m.port → (e.claim k).state = .idle)
                  ∧ (m = .eng → e.seq.state = if s.dev.seq.state = .lockedOut then .lockedOut else .off))
              ∧ (m = .veh → s.dev.mode.ignition = false → s.dev.mode.mode ≠ .park →
                  e.mode.mode = .shutdown ∨ e.mode.mode = .park)
              ∧ (s.dev.mode.ignition = true → s.dev.mode.mode = .run →
                  m = .veh ∨ m = .trc ∨ (m ≠ .brk ∧ e.usable .bat = false ∧ e.usable .eng = false) →
                    e.mode.mode = .limited ∨ e.mode.mode = .halt))

/-- Each limit is used as taken, the lesser of taken and previous-used while its link is frozen, and its substitute where
the link cannot be used; what was used is the next cycle's previous-used value (R16, R41, R42). -/
def Obligations.LimitsUsed : Prop :=
  ∀ (s : State), s.dev.inReset = false → s.dev.alloc.timer.isSome →
    Yields .allocationCycle s fun e =>
      e.mode.mode ≠ .park → ∀ f ∈ limitFields,
        let l := e.link f.member
        let taken := l.taken.bind fun x => f.taken x.status
        f.used e.alloc.prev =
          if l.state = .aligned ∨ l.state = .suspect then
            (if l.freeze then (taken.map fun v => min v (f.used s.dev.alloc.prev)) else taken).getD f.substitute
          else f.substitute

/-- Every cycle that does not end in PARK restarts its timer and hands each member one GRANT, which replaces the waiting
one or joins a queue with room (R37, R40, R175); it carries the link's own state. In WAKING every power it grants is 0,
the share 128 and the command NONE (R44). -/
def Obligations.CycleHandsGrants : Prop :=
  ∀ (s : State), s.dev.inReset = false → s.dev.alloc.timer.isSome → s.dev.txSound →
    Yields .allocationCycle s fun e =>
      e.mode.mode ≠ .park →
        e.alloc.timer = some 10
          ∧ ∀ m ∈ Member.all,
            let q := s.dev.txq m.port
            let had := q.waiting.any TxFrame.isGrant
            (e.txq m.port).sending = q.sending ∧ (e.txq m.port).alive = q.alive
              ∧ (e.txq m.port).frames.filter (fun f => !f.isGrant) = q.frames.filter (fun f => !f.isGrant)
              ∧ (e.txq m.port).frames.map TxFrame.isGrant
                  = q.frames.map TxFrame.isGrant ++ (if had = false ∧ q.frames.length < 8 then [true] else [])
              ∧ (had ∨ q.frames.length < 8 →
                  ((e.txq m.port).waiting.find? TxFrame.isGrant).any (fun
                    | .grant mode link part =>
                      decide (link = (e.link m).state)
                        && (decide (e.mode.mode ≠ .waking)
                          || decide (mode = .waking)
                            && (match part with
                              | .veh total .. => decide (total = 0)
                              | .eng command pG unmet _ =>
                                decide (command = .none) && decide (pG = 0) && !unmet
                              | .bat pB => decide (pB = 0)
                              | .trc setpoint => decide (setpoint = 0)
                              | .brk fF fR r share =>
                                decide (fF = 0) && decide (fR = 0) && decide (r = 0) && decide (share = 128)))
                    | _ => false) = true)

/-- The GRANT of each member carries the powers of the cycle, by the path it took, and the values of R58 to R60 as the cycle
read them; in WAKING the powers are 0, the share 128, the command NONE and the min-load-unmet flag clear, and the other
fields are as in any cycle (R44). -/
def Obligations.GrantsCarryTheCycle : Prop :=
  ∀ (s : State), s.dev.inReset = false → s.dev.alloc.timer.isSome → s.dev.txSound →
    let d := s.dev.afterTakes
    let c := d.cycleIn
    let a := c.allocate
    c.mode ≠ .park → ∀ m ∈ Member.all,
      (s.dev.txq m.port).waiting.any TxFrame.isGrant = true ∨ (s.dev.txq m.port).frames.length < 8 →
        Yields .allocationCycle s fun e =>
          (e.txq m.port).waiting.find? TxFrame.isGrant =
            some (.grant d.mode.mode (d.link m).state
              (match m with
                | .veh =>
                  .veh (if c.pD < 0 then -(a.r + a.fF + a.fR) else a.pT)
                    ⟨(d.link .veh).state, (d.link .eng).state, (d.link .bat).state, (d.link .trc).state,
                      (d.link .brk).state⟩
                    (if stopCondition d.params d.dRouteM d.route.zones then .emissionFree
                      else if d.route.zones.any (fun z => decide (z.kind = .quiet) && z.inside) then .quiet else .none)
                    (if d.account.anchored then d.account.eBat / 10000 else 65535) (d.route.eRes / 10000)
                    ⟨d.wear.liningF.state, d.wear.liningR.state, d.wear.batThru.state, d.wear.engStart.state,
                      d.wear.engRun.state⟩
                | .eng =>
                  .eng
                    (if c.mode = .waking then .none else if d.seq.state = .cranking then .start
                      else if d.seq.state = .stopping then .stop else .none)
                    a.pG (decide (c.mode ≠ .waking) && decide (a.pG < c.minLoad)) ((d.arbiter.holder.map ClaimKind.code).getD 0)
                | .bat => .bat (if c.pD < 0 then -(a.r + a.pG) else a.pT - a.pG)
                | .trc => .trc (if c.pD < 0 then -a.r else a.pT)
                | .brk => .brk a.fF a.fR a.r a.share))
            ∧ (c.mode = .waking → a = ⟨false, 0, 0, 0, 0, 0, 0, 128⟩)

/-- A cycle outside WAKING closes with the values the next one reads: the used limits, R_prev, the episode flags and the
duration, the braking episode opened, carried on or closed into the totals, and a LIMITED cycle counted in the dwell up
to 50 (R27, R40, R48, R55 to R57, R68, R75 to R80). The episodes it opens are notified, ZONE_LIMP and TRACTION_LIMITED at
VEH, BRAKE_SHORTFALL at VEH and BRK (R48, R56, R75), and what it offers to the ring is LIMITED, SLIP, SHORTFALL and
BRAKE_APPLY (R48, R56, R69, R75, R78; their order: log 9); a change to RUN adds its own record and pulses behind them. A
WAKING cycle closes with the used limits, R_prev 0, the traction flag and the duration cleared, and does no more than hand
its GRANTs (R44, R56, R57). The subject of each record is present, also at 0 (log 35). -/
def Obligations.CycleCloses : Prop :=
  ∀ (s : State), s.dev.inReset = false → s.dev.alloc.timer.isSome →
    let d := s.dev.afterTakes
    let c := d.cycleIn
    let a := c.allocate
    let limited := decide (0 ≤ c.pD) && decide (a.pT < c.pD)
    (c.mode = .waking →
        Yields .allocationCycle s fun e =>
          e =
            { d with
              alloc :=
                { d.alloc with
                  timer := some 10, prev := c.lim, rPrev := 0, tractionLimited := false, duration := 0 },
              tx := { e.tx with svc := d.tx.svc } })
      ∧ (c.drives →
          Yields .allocationCycle s fun e =>
            e =
                { d with
                  alloc := e.alloc, mode := e.mode, seq := e.seq, ring := e.ring, tx := e.tx, svc := e.svc,
                  notices := e.notices, free := e.free }
              ∧ (e.mode.mode = d.mode.mode → e.seq = d.seq ∧ e.ring = (d.offered (d.cycleOffers c a)).ring)
              ∧ (∀ p ∈ Port.all,
                  let at? := fun k => (e.notices.get p).hasPulse k
                  let before := fun k => (d.notices.get p).hasPulse k
                  let limp := c.insideEmissionFree && (!c.anchored || decide (c.eBat ≤ c.eFloor))
                  let short := decide (0 < a.s) && !d.alloc.shortfall
                  at? .zoneLimp = (before .zoneLimp || decide (p = .veh) && limp && !d.alloc.zoneLimp)
                    ∧ at? .tractionLimited
                      = (before .tractionLimited || decide (p = .veh) && limited && !d.alloc.tractionLimited)
                    ∧ at? .brakeShortfall
                      = (before .brakeShortfall || (decide (p = .veh) || decide (p = .brk)) && short))
              ∧ e.mode.dwell = (if d.mode.mode = .limited ∧ d.mode.dwell < 50 then d.mode.dwell + 1 else d.mode.dwell)
              ∧ e.alloc =
                { timer := some 10, prev := c.lim, rPrev := a.r, tractionLimited := limited,
                  duration := if limited ∧ c.pBd2 < c.pD then up16 d.alloc.duration else 0,
                  zoneLimp := c.insideEmissionFree && (!c.anchored || decide (c.eBat ≤ c.eFloor)),
                  shortfall := decide (0 < a.s),
                  episode :=
                    if c.pD < 0 then
                      let x := d.alloc.episode.getD ⟨d.runClock, d.dRouteM, 0, 0, false, false, false⟩
                      some
                        { x with
                          regen := x.regen + a.r.toNat, friction := x.friction + (a.fF + a.fR).toNat,
                          slipSeen := x.slipSeen || (c.brkUsable && c.slip),
                          shortfallSeen := x.shortfallSeen || decide (0 < a.s),
                          frozenSeen := x.frozenSeen || (c.brkUsable && c.brkFrozen) }
                    else none,
                  regenTotal :=
                    (match d.alloc.episode with
                      | some x => if c.pD < 0 then d.alloc.regenTotal else satAdd 18446744073709551615 d.alloc.regenTotal x.regen
                      | none => d.alloc.regenTotal),
                  frictionTotal :=
                    (match d.alloc.episode with
                      | some x =>
                        if c.pD < 0 then d.alloc.frictionTotal
                        else satAdd 18446744073709551615 d.alloc.frictionTotal x.friction
                      | none => d.alloc.frictionTotal),
                  applyCount :=
                    if c.pD < 0 ∨ d.alloc.episode = none then d.alloc.applyCount
                    else satInc 4294967295 d.alloc.applyCount })

/-- The allowances of a cycle (R45 to R47, R49): P_bd1 and P_bc1 the derated limits, within the reported ones; P_bd2 within
P_bd1 and, outside EMISSION_FREE zones, its taper: 0 at or below the reserve, whole a band above it, in proportion
between; P_ga 0 unless RUNNING, within P_quiet in a QUIET zone. -/
def Obligations.Allowances : Prop :=
  ∀ (c : CycleIn), c.inRange →
    let taper :=
      if c.anchored = false ∨ c.eBat ≤ c.eRes then 0
      else if c.eRes + c.eBand ≤ c.eBat then 256 else 256 * (c.eBat - c.eRes) / c.eBand
    c.pBd1 = c.lim.pBd * c.kBw / 256 ∧ c.pBc1 = c.lim.pBc * c.kBw / 256
      ∧ (c.insideEmissionFree = false → c.pBd2 = c.pBd1 * taper / 256)
      ∧ 0 ≤ c.pBd1 ∧ c.pBd1 ≤ c.lim.pBd ∧ 0 ≤ c.pBc1 ∧ c.pBc1 ≤ c.lim.pBc ∧ 0 ≤ c.pBd2 ∧ c.pBd2 ≤ c.pBd1
      ∧ (c.insideEmissionFree = false → c.anchored = false ∨ c.eBat ≤ c.eRes → c.pBd2 = 0)
      ∧ (c.insideEmissionFree = false → c.anchored = true → c.eRes + c.eBand ≤ c.eBat → c.pBd2 = c.pBd1)
      ∧ (c.insideEmissionFree = true → c.anchored = true → c.eFloor < c.eBat → c.pBd2 = c.pBd1)
      ∧ (c.insideEmissionFree = true → c.anchored = false ∨ c.eBat ≤ c.eFloor → c.pBd2 = min c.pBd1 c.pCreep)
      ∧ 0 ≤ c.pGa ∧ c.pGa ≤ c.lim.pGen ∧ (c.running = false → c.pGa = 0) ∧ (c.insideQuiet = true → c.pGa ≤ c.pQuiet)
      ∧ (c.running = true → c.insideQuiet = false → c.pGa = c.lim.pGen)

/-- A traction cycle (R43, R51 to R55): the demand is conditioned by the mode table; the traction grant is the least of
demand, motor and supply; the sustain fraction follows its rows, and the generator grant lies between the bounds of R53 and
nearest to the greater of wish and minimum load; the planned battery power lies within the allowances, and no braking grant
is made. A cycle reads P_dem as taken, 0 where VEH cannot be used (R41, R43), and its minimum load from FILTER_RUN while that
is HOLDING (R50). -/
def Obligations.TractionCycle : Prop :=
  ∀ (c : CycleIn) (d : Device),
    (d.cycleIn.minLoad = (if (d.claim .filterRun).state = .holding then ((d.claim .filterRun).load : Int) else 0)
        ∧ d.cycleIn.lowCharge = decide ((d.claim .lowChargeRun).state = .holding)
        ∧ d.cycleIn.pDem =
          (match (d.link .veh).state, (d.link .veh).taken with
            | .aligned, some ⟨_, .veh _ _ _ p _⟩ => p
            | .suspect, some ⟨_, .veh _ _ _ p _⟩ => p
            | _, _ => 0))
      ∧ (c.inRange → c.drives → 0 ≤ c.pD →
        let a := c.allocate
        let target := c.eRes + c.eLift
        let sustain :=
          if c.lowCharge = true ∨ c.anchored = false then 256
          else if target ≤ c.eBat then 0
          else min (256 * (target - c.eBat) / c.eBand) 256
        let wish := max (c.pGa * sustain / 256) c.minLoad
        c.pD = c.conditioned ∧ c.sustain = sustain ∧ 0 ≤ sustain ∧ sustain ≤ 256
          ∧ a.pT = min (min c.pD c.lim.pTm) (c.pBd2 + c.pGa) ∧ 0 ≤ a.pT ∧ a.pT ≤ 3000
          ∧ (c.mode = .limited → a.pT ≤ c.pCreep) ∧ (c.mode = .halt ∨ c.mode = .shutdown → a.pT = 0)
          ∧ a.pT - c.pBd2 ≤ a.pG ∧ 0 ≤ a.pG ∧ a.pG ≤ c.pGa ∧ a.pG ≤ a.pT + c.pBc1
          ∧ (a.pG < wish → a.pG = c.pGa ∨ a.pG = a.pT + c.pBc1)
          ∧ (wish < a.pG → a.pG = a.pT - c.pBd2 ∨ a.pG = 0)
          ∧ (c.running = false → a.pG = 0)
          ∧ -c.pBc1 ≤ a.pT - a.pG ∧ a.pT - a.pG ≤ c.pBd2
          ∧ a.r = 0 ∧ a.fF = 0 ∧ a.fR = 0 ∧ a.s = 0 ∧ a.share = c.share)

/-- A braking cycle (R43, R54, R64 to R74): the demand is conditioned by the mode table; regeneration within every cap and the ramp, 0 under wheel-slip control or a
substituted BRK, not rising under freeze; the rest to friction by the share, which is BRK's, or 128 where BRK is
substituted, moved away from the worn axle and held within s_lo and s_hi; R + F_f + F_r + S = B, with S above 0 only on a
usable BRK with both axles at their capacities. -/
def Obligations.BrakingCycle : Prop :=
  ∀ (c : CycleIn), c.inRange → c.drives → c.pD < 0 →
    let a := c.allocate
    let b := -c.pD
    c.pD = c.conditioned ∧ a.pT = 0 ∧ 1 ≤ b ∧ b ≤ 6000 ∧ a.pG = min (min c.minLoad c.pGa) c.pBc1 ∧ (c.running = false → a.pG = 0)
      ∧ a.r + a.fF + a.fR + a.s = b ∧ 0 ≤ a.r ∧ 0 ≤ a.fF ∧ 0 ≤ a.fR ∧ 0 ≤ a.s
      ∧ a.r ≤ c.lim.pRm ∧ a.r ≤ c.pBc1 - a.pG ∧ a.r ≤ c.pRegmax ∧ a.r ≤ c.rPrev + c.rUp
      ∧ (c.brkUsable = false ∨ c.slip = true → a.r = 0)
      ∧ (c.brkUsable = true → c.brkFrozen = true → a.r ≤ c.rPrev)
      ∧ (c.brkUsable = true → c.slip = false → c.brkFrozen = false →
          a.r = min (min (min b c.lim.pRm) (min (c.pBc1 - a.pG) c.pRegmax)) (c.rPrev + c.rUp))
      ∧ (c.brkUsable = true → a.fF ≤ c.lim.capF ∧ a.fR ≤ c.lim.capR)
      ∧ (0 < a.s → c.brkUsable = true ∧ a.fF = c.lim.capF ∧ a.fR = c.lim.capR)
      ∧ ((c.brkUsable = false ∨ (a.fF < c.lim.capF ∧ a.fR < c.lim.capR)) →
          a.fF = ((b - a.r) * a.share + 128) / 256)
      ∧ a.share =
          min
            (max
              ((if c.brkUsable then c.sB else 128)
                + (if c.wornF = true ∧ c.wornR = false then -c.w else if c.wornF = false ∧ c.wornR = true then c.w else 0))
              c.sLo)
            c.sHi
      ∧ c.sLo ≤ a.share ∧ a.share ≤ c.sHi
      ∧ -c.pBc1 ≤ -(a.r + a.pG) ∧ -(a.r + a.pG) ≤ c.pBd2

/-- The derate factor lies between 128 and 256, does not rise with the count, and is entry 7 for an INVALID item
(R144). -/
def Obligations.DerateFalls : Prop :=
  ∀ (t : ParamTable) (w v : WearItem), t.sound →
    128 ≤ kBw t w ∧ kBw t w ≤ 256
      ∧ (w.state = .invalid → kBw t w = t.get 52)
      ∧ (w.state ≠ .invalid → w.count < t.get 53 → kBw t w = t.get 45)
      ∧ (w.state ≠ .invalid → v.state ≠ .invalid → w.count ≤ v.count → kBw t v ≤ kBw t w)

/-! ## Requests (chapters 9 and 10) -/

/-- The checks of R176 in their order, ahead of any owner: a full queue discards the request with an overrun; a member
link that cannot be used answers NOT_ALIGNED; a kind code that names no request UNKNOWN; a port that may not send the kind
REFUSED_PORT. Nothing else changes. -/
def Obligations.RequestsTurnedAway : Prop :=
  ∀ (i : Instr) (s : State), s.dev.inReset = false → ∀ r ∈ i.request,
    (8 ≤ (s.dev.txq r.port).frames.length →
        let d := s.dev.heard r.port
        (∀ m ∈ r.port.member,
            let l := d.link m
            Becomes i s (d.setLink m { l with counters := { l.counters with overruns := up16 l.counters.overruns } }))
          ∧ (r.port.member = none → Becomes i s { d with svc := { d.svc with overruns := up16 d.svc.overruns } }))
      ∧ ((s.dev.txq r.port).frames.length < 8 →
          (∀ m ∈ r.port.member, (s.dev.link m).state ≠ .aligned → (s.dev.link m).state ≠ .suspect →
              Becomes i s (s.dev.replied r.port r.kind r.tag .notAligned []))
            ∧ (s.dev.hands r.port →
                (i = .unknownRequest r.port r.kind r.tag → Becomes i s (s.dev.replied r.port r.kind r.tag .unknown []))
                  ∧ (i ≠ .unknownRequest r.port r.kind r.tag → i.sentBy r.port = false →
                      Becomes i s (s.dev.replied r.port r.kind r.tag .refusedPort []))))

/-- CONFIG_READ answers with the parameter's working value, and changes nothing else (R185; the widths of an answer's
values, here and below: log 15). -/
def Obligations.ConfigRead : Prop :=
  ∀ (tag param : Byte) (s : State), s.dev.hands .svc →
    Becomes (.configRead .svc tag param) s
      (if 1 ≤ param.toNat ∧ param.toNat ≤ 70 then
        s.dev.replied .svc 0x19 tag .done [⟨1, param.toNat⟩, ⟨4, s.dev.params.vals.getD (param.toNat - 1) 0⟩]
      else s.dev.replied .svc 0x19 tag .unknown [])

/-- WEAR_READ answers with the item's present values and changes nothing else (R145). COUNTER_READ answers with the group's
counters, and clears them where its flag says so (R80, R186). The bodies are the model's reading of R180 (log 15): 4 bytes
for every remainder, and no echo of the clear flag. -/
def Obligations.ValuesRead : Prop :=
  ∀ (tag code clear : Byte) (s : State), s.dev.hands .svc →
    let counters : Instr := .counterRead .svc tag code clear
    (code.toNat = 0 ∨ 5 < code.toNat → Becomes (.wearRead .svc tag code) s (s.dev.replied .svc 0x1E tag .unknown []))
      ∧ (∀ i ∈ Item.all, i.code = code.toNat →
          let w := s.dev.wear.get i
          let outstanding := w.pending || s.dev.nv.writing.any (fun | .wear j _ => decide (j = i) | .block _ => false)
          Becomes (.wearRead .svc tag code) s
            (s.dev.replied .svc 0x1E tag .done
              [⟨1, i.code⟩, ⟨1, w.state.code⟩, ⟨4, w.count⟩, ⟨4, w.rem⟩, ⟨4, s.dev.params.get (33 + 2 * i.code)⟩,
                ⟨4, s.dev.params.get (34 + 2 * i.code)⟩, ⟨1, if outstanding then 1 else 0⟩]))
      ∧ (code.toNat = 0 ∨ 7 < code.toNat → Becomes counters s (s.dev.replied .svc 0x21 tag .unknown []))
      ∧ (∀ m ∈ Member.all, m.number = code.toNat →
          let l := s.dev.link m
          let c := l.counters
          let d := s.dev.replied .svc 0x21 tag .done
            [⟨2, c.check⟩, ⟨2, c.sequence⟩, ⟨2, c.gaps⟩, ⟨2, c.skips⟩, ⟨2, c.repeats⟩, ⟨2, c.overruns⟩, ⟨2, c.losses⟩]
          Becomes counters s (if clear = 0 then d else d.setLink m { l with counters := ⟨0, 0, 0, 0, 0, 0, 0⟩ }))
      ∧ (code = 6 →
          let d := s.dev.replied .svc 0x21 tag .done [⟨2, s.dev.svc.overruns⟩]
          Becomes counters s (if clear = 0 then d else { d with svc := { d.svc with overruns := 0 } }))
      ∧ (code = 7 →
          let a := s.dev.alloc
          let d := s.dev.replied .svc 0x21 tag .done [⟨8, a.regenTotal⟩, ⟨8, a.frictionTotal⟩, ⟨4, a.applyCount⟩]
          Becomes counters s
            (if clear = 0 then d
              else { d with alloc := { a with regenTotal := 0, frictionTotal := 0, applyCount := 0 } }))

/-- ACK_NOTICE takes a held kind with its subjects out of the sender's own set: of the set, that kind's bit and subject
set alone; every other set stays (R174). -/
def Obligations.AckNotice : Prop :=
  ∀ (p : Port) (tag kind : Byte) (s : State), s.dev.hands p →
    (7 < kind.toNat → Becomes (.ackNotice p tag kind) s (s.dev.replied p 0x17 tag .unknown []))
      ∧ (kind.toNat ≤ 7 → (s.dev.notices.get p).held.getLsbD kind.toNat = false →
          Becomes (.ackNotice p tag kind) s (s.dev.replied p 0x17 tag .notFound []))
      ∧ (kind.toNat ≤ 7 → (s.dev.notices.get p).held.getLsbD kind.toNat = true →
          Yields (.ackNotice p tag kind) s fun e =>
            let n := s.dev.notices.get p
            let n' := e.notices.get p
            (∀ b ∈ List.range 8, n'.held.getLsbD b = (n.held.getLsbD b && decide (b ≠ kind.toNat)))
              ∧ n'.pulses = n.pulses
              ∧ n'.lostPorts = (if kind = 0 then 0 else n.lostPorts)
              ∧ n'.warnItems = (if kind = 1 then 0 else n.warnItems)
              ∧ n'.limitItems = (if kind = 2 then 0 else n.limitItems)
              ∧ n'.invalidItems = (if kind = 3 then 0 else n.invalidItems)
              ∧ (∀ q ∈ Port.all, q ≠ p → e.notices.get q = s.dev.notices.get q)
              ∧ e = { s.dev.replied p 0x17 tag .done [] with notices := e.notices })

/-- CLAIM at the arbiter: refused by kind code, owner and PARK; otherwise answered with the stored minimum load, and the
claim arrives: a refresh, a first holder, a pre-emption or a wait (R109, R110, R115; the answer's body: log 15). -/
def Obligations.ClaimArrives : Prop :=
  ∀ (p : Port) (tag kind : Byte) (load : Word16) (s : State), s.dev.hands p →
    (kind.toNat = 0 ∨ 8 < kind.toNat → Becomes (.claim p tag kind load) s (s.dev.replied p 0x10 tag .unknown []))
      ∧ ∀ k ∈ ClaimKind.all, k.code = kind.toNat →
          (k.owner ≠ some p → Becomes (.claim p tag kind load) s (s.dev.replied p 0x10 tag .refusedPort []))
            ∧ (k.owner = some p → s.dev.mode.mode = .park →
                Becomes (.claim p tag kind load) s (s.dev.replied p 0x10 tag .refusedMode []))
            ∧ (k.owner = some p → s.dev.mode.mode ≠ .park →
                Yields (.claim p tag kind load) s fun e =>
                  let a := s.dev.arbiter
                  let n := if k = .filterRun then min load.toNat 2500 else 0
                  let limit := s.dev.params.ageLimit k
                  let new : ClaimState → Claim := fun x =>
                    ⟨x, s.dev.params.claimLevel k, n, if limit = 0 then none else some (limit * 1000)⟩
                  s.dev.answeredNext e p 0x10 tag
                      (if k = .filterRun ∧ 2500 < load.toNat then .clamped else .done) [⟨2, n⟩]
                    ∧ (if (a.claim k).state ≠ .idle then
                        e.arbiter = a.setClaim k { a.claim k with load := n }
                      else if a.holder = none then e.arbiter = a.setClaim k (new .holding)
                      else ∀ h ∈ a.holder,
                        if (a.claim h).level < s.dev.params.claimLevel k then
                          e.arbiter =
                            { ((a.setClaim h { a.claim h with state := .suspended }).setClaim k (new .holding)) with
                              stack := h :: a.stack }
                        else e.arbiter = a.setClaim k (new .pending))
                    ∧ s.dev.followed e
                    ∧ e =
                      { s.dev.heard p with
                        arbiter := e.arbiter, seq := e.seq, ring := e.ring, tx := e.tx, svc := e.svc,
                        notices := e.notices, free := e.free })

/-- RELEASE at the arbiter: refused by kind code and owner, NOT_HELD from IDLE, otherwise DONE and the claim released, with
its successor (R112 to R114). A claim's age expiring releases it with CLAIM_EXPIRED at its owner (R115). -/
def Obligations.ClaimsLeave : Prop :=
  ∀ (p : Port) (tag kind : Byte) (s : State), s.dev.arbiter.sound →
    (s.dev.hands p →
        (kind.toNat = 0 ∨ 8 < kind.toNat → Becomes (.release p tag kind) s (s.dev.replied p 0x11 tag .unknown []))
          ∧ ∀ k ∈ ClaimKind.all, k.code = kind.toNat →
              (k.owner ≠ some p → Becomes (.release p tag kind) s (s.dev.replied p 0x11 tag .refusedPort []))
                ∧ (k.owner = some p → (s.dev.claim k).state = .idle →
                    Becomes (.release p tag kind) s (s.dev.replied p 0x11 tag .notHeld []))
                ∧ (k.owner = some p → (s.dev.claim k).state ≠ .idle →
                    Yields (.release p tag kind) s fun e =>
                      s.dev.answeredNext e p 0x11 tag .done [] ∧ s.dev.arbiter.releasedTo e.arbiter k
                        ∧ s.dev.followed e
                        ∧ e =
                          { s.dev.heard p with
                            arbiter := e.arbiter, seq := e.seq, ring := e.ring, tx := e.tx, svc := e.svc,
                            notices := e.notices, free := e.free }))
      ∧ ∀ k ∈ ClaimKind.all, s.dev.inReset = false → (s.dev.claim k).age.isSome → (s.dev.claim k).state ≠ .idle →
          Yields (.claimExpired k) s fun e =>
            s.dev.arbiter.releasedTo e.arbiter k ∧ s.dev.followed e
              ∧ (∀ o ∈ k.owner, (e.notices.get o).hasPulse .claimExpired = true)
              ∧ e =
                { s.dev with
                  arbiter := e.arbiter, seq := e.seq, ring := e.ring, tx := e.tx, svc := e.svc,
                  notices := e.notices, free := e.free }

/-- ZONE_ADD at the zone queue: a bad id or kind is UNKNOWN, a zone already passed PASSED; an entry of the same id is
replaced; else the entry is inserted, in a full queue in place of a last entry that starts later, and refused otherwise.
A length of 0 is stored as 1 (R91, R95 to R98; the answer's body: log 15). -/
def Obligations.ZoneAddPlaces : Prop :=
  ∀ (tag id kind : Byte) (start : Word32) (length estimate : Word16) (s : State), s.dev.hands .veh →
    let dM := s.dev.route.dRoute / 100
    let n := max length.toNat 1
    let code : AnswerCode := if length = 0 then .clamped else .done
    let c : Instr := .zoneAdd .veh tag id kind start length estimate
    let z : Zone :=
      ⟨id.toNat, if kind = 1 then .quiet else .emissionFree, start.toNat, n, estimate.toNat, decide (start.toNat ≤ dM)⟩
    let others := s.dev.route.zones.filter fun y => decide (y.id ≠ id.toNat)
    (id = 0 ∨ (kind ≠ 1 ∧ kind ≠ 2) → Becomes c s (s.dev.replied .veh 0x12 tag .unknown []))
      ∧ (id ≠ 0 → kind = 1 ∨ kind = 2 →
          (start.toNat + n ≤ dM → Becomes c s (s.dev.replied .veh 0x12 tag .passed []))
            ∧ (dM < start.toNat + n →
                (others ≠ s.dev.route.zones →
                    Yields c s fun e =>
                      s.dev.answeredNext e .veh 0x12 tag code [⟨2, n⟩]
                        ∧ s.dev.routeAt e s.dev.route.dRoute (placedIn z others))
                  ∧ (others = s.dev.route.zones → s.dev.route.zones.length < 8 →
                    Yields c s fun e =>
                      s.dev.answeredNext e .veh 0x12 tag code [⟨2, n⟩]
                        ∧ s.dev.routeAt e s.dev.route.dRoute (placedIn z s.dev.route.zones))
                  ∧ (others = s.dev.route.zones → 8 ≤ s.dev.route.zones.length →
                    ∀ l ∈ s.dev.route.zones.getLast?,
                      if start.toNat < l.start then
                        Yields c s fun e =>
                          s.dev.answeredNext e .veh 0x12 tag code [⟨2, n⟩]
                            ∧ s.dev.routeAt e s.dev.route.dRoute (placedIn z s.dev.route.zones.dropLast)
                      else Becomes c s (s.dev.replied .veh 0x12 tag .refusedFull []))))

/-- ZONE_CANCEL removes the entry of its id and keeps the order of the others (R99); ROUTE_RESET empties the queue and
puts the odometer to 0, which leaves the floor as the reserve and ZONE_STOP lowered (R100). -/
def Obligations.ZonesRemoved : Prop :=
  ∀ (tag id : Byte) (s : State), s.dev.hands .veh →
    let others := s.dev.route.zones.filter fun y => decide (y.id ≠ id.toNat)
    (id = 0 → Becomes (.zoneCancel .veh tag id) s (s.dev.replied .veh 0x13 tag .unknown []))
      ∧ (id ≠ 0 → others = s.dev.route.zones →
          Becomes (.zoneCancel .veh tag id) s (s.dev.replied .veh 0x13 tag .notFound []))
      ∧ (id ≠ 0 → others ≠ s.dev.route.zones →
          Yields (.zoneCancel .veh tag id) s fun e =>
            s.dev.answeredNext e .veh 0x13 tag .done [] ∧ s.dev.routeAt e s.dev.route.dRoute others)
      ∧ (Yields (.routeReset .veh tag) s fun e =>
          s.dev.answeredNext e .veh 0x14 tag .done [] ∧ s.dev.routeAt e 0 []
            ∧ e.route.eRes = min s.dev.params.eFloor s.dev.params.eCap
            ∧ (s.dev.route.zones.any (fun z => z.inside) = true →
                (e.notices.get .veh).hasPulse .zoneLeft = true))

/-- RESYNC at the named link: UNKNOWN for no member port, REFUSED_MODE in PARK; otherwise the link realigns from nothing,
its freeze and counters kept; in RUN the loss of VEH or TRC ends RUN (R13, R28). -/
def Obligations.ResyncRealigns : Prop :=
  ∀ (p : Port) (tag target : Byte) (s : State), s.dev.hands p → p = .veh ∨ p = .svc →
    (target.toNat = 0 ∨ 5 < target.toNat →
        Becomes (.resync p tag target) s (s.dev.replied p 0x15 tag .unknown []))
      ∧ ∀ m ∈ Member.all, m.number = target.toNat →
          (s.dev.mode.mode = .park → Becomes (.resync p tag target) s (s.dev.replied p 0x15 tag .refusedMode []))
            ∧ (s.dev.mode.mode ≠ .park →
                Yields (.resync p tag target) s fun e =>
                  let l := s.dev.link m
                  s.dev.answeredNext e p 0x15 tag .done []
                    ∧ e.link m =
                      { l with
                        state := .aligning, unread := [], taken := none, expected := none, accepted := 0, missRun := 0,
                        recovery := 0 }
                    ∧ (∀ k ∈ Member.all, k ≠ m → e.link k = s.dev.link k)
                    ∧ (s.dev.mode.mode = .run → m = .veh ∨ m = .trc → l.state ≠ .aligning →
                        e.mode.mode = .limited ∨ e.mode.mode = .halt)
                    ∧ (e.mode.mode = s.dev.mode.mode → e.seq = s.dev.seq)
                    ∧ e =
                      { s.dev.heard p with
                        links := e.links, mode := e.mode, seq := e.seq, ring := e.ring, tx := e.tx, svc := e.svc,
                        notices := e.notices, free := e.free })

/-- NOTE stores its record under the next sequence number, with room behind the newest record; at 256 unread records over
the oldest in WRAP, over the newest in HOLD, where the answer is OVERWROTE; each such loss is counted as missed, and
RING_FILL is raised when the unread count comes up to the threshold (R153, R157 to R162; the answer's width: log 15; the
subject present in every kind: log 35). -/
def Obligations.NoteStored : Prop :=
  ∀ (p : Port) (tag : Byte) (value1 value2 : Word32) (s : State), s.dev.hands p →
    Yields (.note p tag value1 value2) s fun e =>
      let g := s.dev.ring
      let r : Record :=
        ⟨g.seq, .note, 0, s.dev.runClock, s.dev.route.dRoute / 100, some p.number, some value1.toInt,
          some value2.toInt⟩
      let room := decide (g.head - g.tail < 256)
      let hold := decide (s.dev.params.get 64 = 1)
      s.dev.answeredNext e p 0x16 tag (if !room && hold then .overwrote else .done) [⟨2, g.seq.toNat⟩]
        ∧ e.ring.seq = g.seq + 1
        ∧ (if room then
            e.ring.slots = g.slots.set (g.head % 256) (some r) ∧ e.ring.head = g.head + 1 ∧ e.ring.tail = g.tail
              ∧ e.ring.missed = g.missed
          else if hold then
            e.ring.slots = g.slots.set ((g.head - 1) % 256) (some r) ∧ e.ring.head = g.head ∧ e.ring.tail = g.tail
              ∧ e.ring.missed = up16 g.missed
          else
            e.ring.slots = g.slots.set (g.head % 256) (some r) ∧ e.ring.head = g.head + 1 ∧ e.ring.tail = g.tail + 1
              ∧ e.ring.missed = up16 g.missed)
        ∧ (if room ∧ g.head - g.tail + 1 = s.dev.params.get 65 then
            (e.notices.get .svc).hasHeld .ringFill = true ∧ (e.notices.get .veh).hasHeld .ringFill = true
          else e.notices = s.dev.notices)
        ∧ e = { s.dev.heard p with ring := e.ring, tx := e.tx, svc := e.svc, notices := e.notices, free := e.free }

/-- CONFIG_WRITE: refused by number, mode and a busy block; otherwise the clamped value is in the working copy at once,
E_cap lowers E_bat, and the block's write is awaited (R88, R103, R183, R184). A write that starts at once is marked as one
that may still give way to a wear cell (blockFresh, the model's own mark: log 31). -/
def Obligations.ConfigWriteTaken : Prop :=
  ∀ (tag param : Byte) (value : Word32) (s : State), s.dev.hands .svc → s.dev.params.sound → s.dev.nvSound →
    let c : Instr := .configWrite .svc tag param value
    let n := param.toNat
    let open' := s.dev.mode.mode = .park ∨ (s.dev.mode.mode = .halt ∧ s.dev.effPark = true)
    (n = 0 ∨ 63 < n → Becomes c s (s.dev.replied .svc 0x18 tag .unknown []))
      ∧ (1 ≤ n → n ≤ 63 →
          (¬ open' → Becomes c s (s.dev.replied .svc 0x18 tag .refusedMode []))
            ∧ (open' → s.dev.blockBusy = true → Becomes c s (s.dev.replied .svc 0x18 tag .refusedBusy []))
            ∧ (open' → s.dev.blockBusy = false →
                Yields c s fun e =>
                  let v := min (max value.toNat (writeRange s.dev.params n).1) (writeRange s.dev.params n).2
                  e.params = s.dev.params.set n v
                    ∧ e.account.eBat = (if n = 9 then min s.dev.account.eBat (v * 1000000) else s.dev.account.eBat)
                    ∧ (n = 8 ∨ n = 9 ∨ n = 11 ∨ n = 12 →
                        e.route.eRes = reserve e.params (s.dev.route.dRoute / 100) s.dev.route.zones)
                    ∧ e.nv.blockAwaiting
                        = some (.configWrite tag n v (if v = value.toNat then .done else .clamped))
                    ∧ e.nv.blockFresh = decide (s.dev.nv.writing = none)
                    ∧ (if s.dev.nv.writing = none then e.nv.started (.block e.params.vals)
                      else e.nv.blockPending = true ∧ e.nv.writing = s.dev.nv.writing)
                    ∧ e.account.anchored = s.dev.account.anchored
                    ∧ e.route = { s.dev.route with eRes := e.route.eRes, stopRaised := e.route.stopRaised }
                    ∧ (n ≠ 13 → e.route.stopRaised = s.dev.route.stopRaised ∧ e.arbiter = s.dev.arbiter)
                    ∧ (n < 35 ∨ 44 < n → e.wear = s.dev.wear)
                    ∧ (n ≠ 13 → e.seq = s.dev.seq)
                    ∧ e =
                      { s.dev.heard .svc with
                        params := e.params, account := e.account, route := e.route, arbiter := e.arbiter, seq := e.seq,
                        wear := e.wear, nv := e.nv, ring := e.ring, tx := e.tx, svc := e.svc, notices := e.notices,
                        free := e.free }))

/-- RING_CONFIG: refused by mode code and a busy block; otherwise the corrected settings are in the working copy at once
and the sampling counters at their intervals; a clear empties the ring, whose first record is then the CONFIG record; the
block's write is awaited (R163, R164; a record's subject present in every kind: log 35). -/
def Obligations.RingConfigTaken : Prop :=
  ∀ (tag mode : Byte) (threshold enables slip check start brake : Word16) (clear : Byte) (s : State),
    s.dev.hands .svc → s.dev.params.sound → s.dev.nvSound →
      let c : Instr := .ringConfig .svc tag mode threshold enables slip check start brake clear
      (mode ≠ 0 → mode ≠ 1 → Becomes c s (s.dev.replied .svc 0x1A tag .unknown []))
        ∧ (mode = 0 ∨ mode = 1 →
            (s.dev.blockBusy = true → Becomes c s (s.dev.replied .svc 0x1A tag .refusedBusy []))
              ∧ (s.dev.blockBusy = false →
                  Yields c s fun e =>
                    let th := min (max threshold.toNat 1) 256
                    let en := enables.toNat ||| 0xC445
                    e.params.vals =
                        s.dev.params.vals.take 63
                          ++ [mode.toNat, th, en, max slip.toNat 3, max check.toNat 3, start.toNat, brake.toNat]
                      ∧ e.ring.sampSlip = max slip.toNat 3 ∧ e.ring.sampCheck = max check.toNat 3
                      ∧ e.ring.sampStart = start.toNat ∧ e.ring.sampBrake = brake.toNat
                      ∧ e.ring.seq = s.dev.ring.seq + 1
                      ∧ (clear ≠ 0 →
                          e.ring.head = 1 ∧ e.ring.tail = 0 ∧ e.ring.missed = 0
                            ∧ e.ring.slots =
                              some ⟨s.dev.ring.seq, .config, 1, s.dev.runClock, s.dev.route.dRoute / 100, some 1,
                                some th, some en⟩ :: List.replicate 255 none)
                      ∧ e.nv.blockAwaiting =
                        some (.ringConfig tag
                          ⟨mode.toNat, th, en, max slip.toNat 3, max check.toNat 3, start.toNat, brake.toNat⟩
                          (decide (clear ≠ 0))
                          (if th = threshold.toNat ∧ en = enables.toNat ∧ 3 ≤ slip.toNat ∧ 3 ≤ check.toNat then .done
                            else .clamped))
                      ∧ (if s.dev.nv.writing = none then e.nv.started (.block e.params.vals)
                        else e.nv.blockPending = true ∧ e.nv.writing = s.dev.nv.writing)
                      ∧ e =
                        { s.dev.heard .svc with
                          params := e.params, ring := e.ring, nv := e.nv, tx := e.tx, svc := e.svc,
                          notices := e.notices, free := e.free }))

/-- DRAIN: refused by mode code and an active drain; otherwise it starts. A ONE_SHOT drain places records until its count,
the unsent records or the places but one are spent, and ends by its answer where count or records ran out; a CONTINUOUS
drain is answered first and goes on until nothing lies at the cursor or one place is left (R166 to R168). -/
def Obligations.DrainStarts : Prop :=
  ∀ (tag : Byte) (count : Word16) (mode : Byte) (s : State), s.dev.hands .svc → s.dev.ring.sound →
    let c : Instr := .drain .svc tag count mode
    let g := s.dev.ring
    let n := min (max count.toNat 1) 256
    let code : AnswerCode := if n = count.toNat then .done else .clamped
    let k := min (min n (g.head - g.cursor)) (7 - s.dev.tx.svc.frames.length)
    (mode ≠ 1 → mode ≠ 2 → Becomes c s (s.dev.replied .svc 0x1B tag .unknown []))
      ∧ (mode = 1 ∨ mode = 2 → g.drain ≠ .idle → Becomes c s (s.dev.replied .svc 0x1B tag .refusedBusy []))
      ∧ (mode = 1 → g.drain = .idle →
          Yields c s fun e =>
            let ended := decide (k = n) || decide (g.head ≤ g.cursor + k)
            e.ring =
                { g with
                  cursor := g.cursor + k, remaining := n - k, reload := n, sent := k, tag := tag,
                  drain := if ended then .idle else .oneShot, clamped := e.ring.clamped, lastSeq := e.ring.lastSeq }
              ∧ (k = 0 → e.ring.lastSeq = 0) ∧ (0 < k → g.seqAt (g.cursor + k - 1) = some e.ring.lastSeq)
              ∧ e.tx.svc.frames.map TxFrame.kindCode =
                s.dev.tx.svc.frames.map TxFrame.kindCode ++ List.replicate k 0x05 ++ (if ended then [0x03] else [])
              ∧ (ended = true → e.tx.svc.frames.getLast? =
                  some (.answer 0x1B tag code [⟨2, k⟩, ⟨2, e.ring.lastSeq.toNat⟩]))
              ∧ e = { s.dev.heard .svc with ring := e.ring, tx := { s.dev.tx with svc := e.tx.svc } })
      ∧ (mode = 2 → g.drain = .idle →
          Yields c s fun e =>
            s.dev.answeredNext e .svc 0x1B tag code [⟨2, n⟩]
              ∧ e.ring.drain = .continuous ∧ e.ring.reload = n ∧ e.ring.tag = tag ∧ 0 < e.ring.remaining
              ∧ e.ring.slots = g.slots ∧ e.ring.head = g.head ∧ e.ring.tail = g.tail ∧ e.ring.seq = g.seq
              ∧ g.cursor ≤ e.ring.cursor ∧ e.ring.cursor ≤ g.head
              ∧ (e.ring.cursor = g.head ∨ 7 ≤ e.tx.svc.frames.length)
              ∧ e.ring.sent = e.ring.cursor - g.cursor
              ∧ e = { s.dev.heard .svc with ring := e.ring, tx := { s.dev.tx with svc := e.tx.svc } })

/-- DRAIN_STOP ends an active drain, the cursor where it stands (R169). RING_ACK moves the tail past the oldest unread
record of its sequence number, the cursor no further back than the tail, and answers how many records it passed (R170). -/
def Obligations.DrainEndsAndAcks : Prop :=
  ∀ (tag : Byte) (seq : Word16) (s : State), s.dev.hands .svc →
    let g := s.dev.ring
    let unread := List.range' g.tail (g.head - g.tail)
    (g.drain = .idle → Becomes (.drainStop .svc tag) s (s.dev.replied .svc 0x1C tag .notHeld []))
      ∧ (g.drain ≠ .idle →
          Becomes (.drainStop .svc tag) s
            { s.dev.replied .svc 0x1C tag .done [⟨4, g.sent⟩] with ring := { g with drain := .idle } })
      ∧ ((∀ q ∈ unread, g.seqAt q ≠ some seq) →
          Becomes (.ringAck .svc tag seq) s (s.dev.replied .svc 0x1D tag .notFound []))
      ∧ (∀ p ∈ unread, g.seqAt p = some seq → (∀ q ∈ unread, g.seqAt q = some seq → p ≤ q) →
          Yields (.ringAck .svc tag seq) s fun e =>
            s.dev.answeredNext e .svc 0x1D tag .done [⟨2, p + 1 - g.tail⟩]
              ∧ e.ring.tail = p + 1 ∧ e.ring.head = g.head ∧ e.ring.slots = g.slots ∧ e.ring.seq = g.seq
              ∧ e.ring.missed = g.missed ∧ max g.cursor (p + 1) ≤ e.ring.cursor
              ∧ (g.drain = .idle →
                  Becomes (.ringAck .svc tag seq) s
                    { s.dev.replied .svc 0x1D tag .done [⟨2, p + 1 - g.tail⟩] with
                      ring := { g with tail := p + 1, cursor := max g.cursor (p + 1) } }))

/-- WEAR_RESET and WEAR_SET: refused by item code, mode and an outstanding write; otherwise the count is set, the remainder
0, the state that of the marks, one WEAR record is stored, and the answer awaits the write, which an idle engine starts at
once (R139, R145, R146, R149; the notice of an item that leaves INVALID: log 18). A block write that a CONFIG_WRITE has
started in the same ms gives way to the wear cells where a WEAR_RESET is taken, and not where a WEAR_SET is (R184; the
model's reading: log 31). -/
def Obligations.WearCountSet : Prop :=
  ∀ (tag item : Byte) (count : Word32) (isSet : Bool) (s : State), s.dev.hands .svc → s.dev.nvSound →
    let c : Instr := if isSet then .wearSet .svc tag item count else .wearReset .svc tag item
    let kind : Byte := if isSet then 0x20 else 0x1F
    let n := if isSet then count.toNat else 0
    (item.toNat = 0 ∨ 5 < item.toNat → Becomes c s (s.dev.replied .svc kind tag .unknown []))
      ∧ ∀ i ∈ Item.all, i.code = item.toNat →
          (s.dev.mode.mode ≠ .park → Becomes c s (s.dev.replied .svc kind tag .refusedMode []))
            ∧ (s.dev.mode.mode = .park → s.dev.itemBusy i = true →
                Becomes c s (s.dev.replied .svc kind tag .refusedBusy []))
            ∧ (s.dev.mode.mode = .park → s.dev.itemBusy i = false →
                Yields c s fun e =>
                  let idle := decide (s.dev.nv.writing = none)
                  let displaces :=
                    !isSet && s.dev.nv.blockFresh && s.dev.nv.writing.any (fun | .block _ => true | .wear _ _ => false)
                  let state := stateAt s.dev.params i n
                  let old := (s.dev.wear.get i).state
                  let w := s.dev.wear.set i ⟨n, 0, state, true, some ⟨isSet, tag⟩⟩
                  let first := (Item.all.find? fun k => (w.get k).pending).getD i
                  (if idle || displaces then
                      e.wear = w.set first { w.get first with pending := false }
                        ∧ e.nv =
                          { s.dev.nv with
                            writing := some (.wear first (w.get first).count), left := some 5, blockFresh := false,
                            blockPending := s.dev.nv.blockPending || displaces }
                    else e.wear = w ∧ e.nv = s.dev.nv)
                    ∧ (idle = true → first = i)
                    ∧ e.ring.seq = s.dev.ring.seq + 1
                    ∧ (∀ p ∈ [Port.veh, i.member],
                        (state = .limit → old ≠ .limit → (e.notices.get p).limitsOf i = true)
                          ∧ (state = .limit → old = .normal → (e.notices.get p).warnsOf i = true)
                          ∧ (state = .warned → old = .normal ∨ old = .invalid → (e.notices.get p).warnsOf i = true))
                    ∧ e =
                      { s.dev.heard .svc with
                        wear := e.wear, nv := e.nv, ring := e.ring, tx := e.tx, svc := e.svc, notices := e.notices,
                        free := e.free })

/-- The completion of a write leaves the captured contents in the cell with a matching check, answers the request that
awaited it, and starts the next write: the pending wear cell of the lowest code, then the block (R147 to R150; the bytes
that the check covers are the model's choice: log 16). -/
def Obligations.WriteCompletes : Prop :=
  ∀ (s : State), s.dev.inReset = false →
    (s.dev.nv.writing = none → exec .nvWriteComplete s = .next s)
      ∧ ∀ w ∈ s.dev.nv.writing,
          Yields .nvWriteComplete s fun e =>
            let pending := Item.all.filter fun i => (s.dev.wear.get i).pending
            (∀ i ∈ Item.all,
                e.nv.cells.get i =
                  (match w with
                    | .wear j n =>
                      if j = i then
                        ⟨BitVec.ofNat 8 i.code, BitVec.ofNat 32 n,
                          crc8 (BitVec.ofNat 8 i.code :: leBytes 4 (BitVec.ofNat 32 n).toNat)⟩
                      else s.dev.nv.cells.get i
                    | .block _ => s.dev.nv.cells.get i))
              ∧ e.nv.block =
                (match w with
                  | .block vals => ⟨vals, crc8 (vals.flatMap (leBytes 4))⟩
                  | .wear _ _ => s.dev.nv.block)
              ∧ (∀ i ∈ pending.head?,
                  e.nv.started (.wear i (s.dev.wear.get i).count) ∧ (e.wear.get i).pending = false
                    ∧ e.nv.blockPending = s.dev.nv.blockPending)
              ∧ (pending = [] → s.dev.nv.blockPending = true →
                  e.nv.started (.block s.dev.params.vals) ∧ e.nv.blockPending = false)
              ∧ (pending = [] → s.dev.nv.blockPending = false → e.nv.writing = none ∧ e.nv.left = none)
              ∧ (∀ i ∈ Item.all,
                  (e.wear.get i).count = (s.dev.wear.get i).count ∧ (e.wear.get i).rem = (s.dev.wear.get i).rem
                    ∧ (e.wear.get i).state = (s.dev.wear.get i).state)
              ∧ (∀ x ∈ s.dev.owed w,
                  if s.dev.tx.svc.frames.length < 8 then
                    s.dev.answeredNext e .svc x.kind x.tag x.code x.body
                  else
                    (e.mode.mode = s.dev.mode.mode →
                      e.svc.overruns = up16 s.dev.svc.overruns ∧ e.tx.svc.frames = s.dev.tx.svc.frames))
              ∧ (s.dev.mode.mode ≠ .shutdown →
                  e = { s.dev with nv := e.nv, wear := e.wear, tx := { s.dev.tx with svc := e.tx.svc }, svc := e.svc })

/-! ## Lines and the mode controller (chapter 2) -/

/-- The ignition line starts a debounce of 100 ms where it departs from the debounced ignition and stops it where it comes
back; at the expiry the debounced ignition takes the line's reading and the mode follows by the table of R20: at OFF it is
SHUTDOWN, which goes on to PARK at once exactly where the sequencer is OFF or LOCKED_OUT and the write engine idle (R32,
R34). -/
def Obligations.IgnitionLine : Prop :=
  ∀ (on : Bool) (s : State), s.dev.inReset = false →
    let m := s.dev.mode
    (s.dev.ignLine = on → exec (.ignitionLineChange on) s = .next s)
      ∧ (s.dev.ignLine ≠ on →
          Becomes (.ignitionLineChange on) s
            { s.dev with ignLine := on, mode := { m with debounce := if on = m.ignition then none else some 100 } })
      ∧ (m.debounce.isSome →
          let quiet :=
            (s.dev.ignLine = true ∧ m.mode ≠ .park ∧ m.mode ≠ .shutdown)
              ∨ (s.dev.ignLine = false ∧ (m.mode = .park ∨ m.mode = .shutdown))
          (quiet →
              Becomes .ignitionDebounceExpiry s
                { s.dev with mode := { m with debounce := none, ignition := s.dev.ignLine } })
            ∧ (¬ quiet →
                Yields .ignitionDebounceExpiry s fun e =>
                  e.mode.ignition = s.dev.ignLine ∧ e.mode.debounce = none
                    ∧ (m.mode = .park → e.mode.mode = .waking ∧ e.mode.wake = some 2000 ∧ e.alloc.timer = some 10)
                    ∧ (m.mode = .shutdown →
                        e.mode.mode = (if s.dev.doorLine || s.dev.effDoor then .halt else .limited)
                          ∧ e.mode.keyOffRaised = false ∧ e.mode.shutdown = none ∧ e.mode.dwell = 0)
                    ∧ (m.mode ≠ .park → m.mode ≠ .shutdown →
                        if (s.dev.seq.state = .off ∨ s.dev.seq.state = .lockedOut) ∧ s.dev.nvBusy = false then
                          e.mode.mode = .park ∧ e.mode.shutdown = none ∧ e.mode.keyOffRaised = false
                        else
                          e.mode.mode = .shutdown ∧ e.mode.keyOffRaised = true ∧ e.mode.shutdown = some 30000
                            ∧ e.mode.wake = none ∧ e.mode.doorAgree = none ∧ e.mode.origin = none)
                    ∧ (m.mode = .park →
                        e.alloc = { s.dev.alloc with timer := some 10 }
                          ∧ e.seq = { s.dev.seq with policy := some 100 }
                          ∧ e.route = { s.dev.route with stopRaised := e.route.stopRaised })
                    ∧ (m.mode ≠ .park → e.mode.mode ≠ .park → e.alloc = s.dev.alloc ∧ e.route = s.dev.route)
                    ∧ (e.mode.mode ≠ .park → e.links = s.dev.links)
                    ∧ (m.mode ≠ .park →
                        e =
                          { s.dev with
                            mode := e.mode, links := e.links, alloc := e.alloc, route := e.route,
                            arbiter := e.arbiter, seq := e.seq, ring := e.ring, tx := e.tx, svc := e.svc,
                            notices := e.notices, free := e.free })))

/-- A change of the door line re-forms the door conditions: LIMITED and RUN give HALT with their origin, the agreement
timer runs in HALT while all three exit conditions hold, the disagreement timer while line and flag differ unreported
(R29 to R31). The agreement timer's expiry leaves HALT by its origin (R30). -/
def Obligations.DoorLine : Prop :=
  ∀ (isOpen : Bool) (s : State), s.dev.inReset = false →
    let m := s.dev.mode
    (s.dev.doorLine = isOpen → exec (.doorLineChange isOpen) s = .next s)
      ∧ (s.dev.doorLine ≠ isOpen →
          Yields (.doorLineChange isOpen) s fun e =>
            let x := { s.dev with doorLine := isOpen }
            e.doorLine = isOpen ∧ e.mode = x.doorsTaken
              ∧ e.seq =
                (if e.mode.mode = m.mode then s.dev.seq
                  else ({ s.dev with mode := e.mode, doorLine := e.doorLine }).directed)
              ∧ e =
                { s.dev with
                  doorLine := e.doorLine, mode := e.mode, seq := e.seq, ring := e.ring, tx := e.tx, svc := e.svc,
                  notices := e.notices, free := e.free })
      ∧ (m.mode = .halt → m.doorAgree.isSome → s.dev.doorLine = false → s.dev.effDoor = false →
          Yields .doorClosed s fun e =>
            let ready :=
              Member.all.all (fun k => decide ((s.dev.link k).state = .aligned)) && s.dev.account.anchored
                && (decide (m.origin = some .run) || decide (m.dwell = 50))
            e.mode = { m with mode := if ready then .run else .limited, origin := none, doorAgree := none }
              ∧ e.seq =
                (if e.mode.mode = m.mode then s.dev.seq
                  else ({ s.dev with mode := e.mode, doorLine := e.doorLine }).directed)
              ∧ e =
                { s.dev with
                  doorLine := e.doorLine, mode := e.mode, seq := e.seq, ring := e.ring, tx := e.tx, svc := e.svc,
                  notices := e.notices, free := e.free })

/-- The wake timer's expiry stops the timer and offers its MODE record, WAKE_SLOW, with the weights of the ALIGNED and the
SILENT ports (R26). The disagreement timer's marks the disagreement reported, gives VEH DOOR_DISAGREE and offers its MODE
record with the line and the effective flag (R31). Neither changes the mode. The record is stored under the next sequence
number, with room behind the newest, while the kind is enabled, and discarded otherwise (R153, R156, R157); its subject 0 is
present (log 35). -/
def Obligations.ModeRecords : Prop :=
  ∀ (s : State), s.dev.inReset = false →
    let g := s.dev.ring
    let enabled := (s.dev.params.get 66).testBit 1
    let stored : Ring → Nat → Int → Int → Prop := fun h subkind v w =>
      (enabled = false → h = g)
        ∧ (enabled = true → h.seq = g.seq + 1)
        ∧ (enabled = true → g.head - g.tail < 256 →
            h.slots =
                g.slots.set (g.head % 256)
                  (some
                    ⟨g.seq, .mode, subkind, s.dev.runClock, s.dev.route.dRoute / 100, some 0, some v, some w⟩)
              ∧ h.head = g.head + 1 ∧ h.tail = g.tail ∧ h.missed = g.missed)
    (s.dev.mode.wake.isSome →
        let aligned := s.dev.portWeights .aligned
        let silent := s.dev.portWeights .silent
        let d := { s.dev with mode := { s.dev.mode with wake := none } }
        let e := d.offer ⟨.mode, 6, 0, aligned, silent⟩
        Becomes .wakeSlow s e ∧ stored e.ring 6 aligned silent
          ∧ e =
            { d with
              ring := e.ring, svc := { s.dev.svc with overruns := e.svc.overruns },
              tx := { s.dev.tx with svc := e.tx.svc },
              notices := { s.dev.notices with veh := e.notices.veh, svc := e.notices.svc }, free := e.free })
      ∧ (s.dev.mode.doorDisagree.isSome →
        let line := if s.dev.doorLine then 1 else 0
        let flag := if s.dev.effDoor then 1 else 0
        let d := { s.dev with mode := { s.dev.mode with doorDisagree := none, reported := true } }
        let e := (d.raisePulse .veh .doorDisagree).offer ⟨.mode, 7, 0, line, flag⟩
        Becomes .doorDisagree s e ∧ stored e.ring 7 line flag
          ∧ (e.notices.get .veh).hasPulse .doorDisagree = true
          ∧ e =
            { d with
              ring := e.ring, svc := { s.dev.svc with overruns := e.svc.overruns },
              tx := { s.dev.tx with svc := e.tx.svc },
              notices := { s.dev.notices with veh := e.notices.veh, svc := e.notices.svc }, free := e.free })

/-- The shutdown timer's expiry enters PARK whatever the sequencer and the write engine do (R34): every block is as PARK
entry leaves it, and what PARK entry keeps is kept (R18, R35, R36, R61, R107, R135, R179): the held notices with their
subjects, to which the MODE record may add RING_FILL (R161), and the SVC queue, to which a drain may add records (R166). -/
def Obligations.ShutdownLimitParks : Prop :=
  ∀ (s : State), s.dev.inReset = false → s.dev.mode.shutdown.isSome →
    Yields .shutdownLimit s fun e =>
      e.mode =
          { mode := .park, ignition := s.dev.mode.ignition, debounce := s.dev.mode.debounce, flags := none,
            doorAgree := none, doorDisagree := none, reported := false, wake := none, dwell := 0, shutdown := none,
            origin := none, keyOffRaised := false, xcvrWake := false }
        ∧ (∀ m ∈ Member.all,
            e.link m = ⟨.silent, none, 0, [], none, 0, 0, false, 0, (s.dev.link m).counters⟩)
        ∧ e.alloc =
          { timer := none, prev := ⟨0, 0, 0, 0, 0, 0, 0⟩, rPrev := 0, tractionLimited := false, duration := 0,
            zoneLimp := false, shortfall := false, episode := none, regenTotal := s.dev.alloc.regenTotal,
            frictionTotal := s.dev.alloc.frictionTotal, applyCount := s.dev.alloc.applyCount }
        ∧ (∀ k ∈ ClaimKind.all, e.claim k = (s.dev.claim k).dropped) ∧ e.arbiter.stack = []
        ∧ e.seq =
          { state := .off, attempts := 0, crank := none, gap := none, cool := none, stop := none, runTime := none,
            offDwell := none, policy := none, engine := s.dev.seq.engine, crankTime := 0 }
        ∧ e.route = { s.dev.route with stopRaised := false }
        ∧ (∀ p ∈ Port.all,
            let n := s.dev.notices.get p
            let fills := (s.dev.params.get 66).testBit 1 && decide (s.dev.ring.head - s.dev.ring.tail < 256)
              && decide (s.dev.ring.head - s.dev.ring.tail + 1 = s.dev.params.get 65)
            e.notices.get p =
              { n with
                pulses := 0,
                held := if fills = true ∧ (p = .veh ∨ p = .svc) then n.held ||| 0x80 else n.held })
        ∧ e.tx.svc.sending = s.dev.tx.svc.sending ∧ e.tx.svc.alive = s.dev.tx.svc.alive
        ∧ s.dev.tx.svc.frames.isPrefixOf e.tx.svc.frames = true
        ∧ (s.dev.ring.drain = .idle → e.tx.svc = s.dev.tx.svc)
        ∧ (∀ m ∈ Member.all,
            (e.txq m.port).sending = (s.dev.txq m.port).sending
              ∧ (e.txq m.port).alive = (s.dev.txq m.port).alive
              ∧ (e.txq m.port).waiting = (s.dev.txq m.port).waiting.filter (fun f => !f.isGrant))
        ∧ e =
          { s.dev with
            mode := e.mode, links := e.links, alloc := e.alloc, arbiter := e.arbiter, seq := e.seq, route := e.route,
            notices := e.notices, tx := e.tx, ring := e.ring, svc := e.svc, free := e.free }

/-! ## The engine sequencer (chapter 6) -/

/-- The crank timer's expiry is a failed attempt: OFF with the retry gap below max attempts, LOCKED_OUT with START_LOCKOUT
held at VEH and ENG at it (R123). ENGINE_UNLOCK leaves LOCKED_OUT with no attempt counted, and cranks at once where the
start condition holds (R131). -/
def Obligations.CrankFailsAndUnlocks : Prop :=
  ∀ (tag : Byte) (s : State),
    let q := s.dev.seq
    (s.dev.inReset = false → q.crank.isSome → q.state = .cranking → s.dev.mode.mode ≠ .shutdown →
        Yields .crankTimerExpiry s fun e =>
          e =
              { s.dev with
                seq := e.seq, ring := e.ring, tx := e.tx, svc := e.svc, notices := e.notices, free := e.free }
            ∧ (if q.attempts + 1 < s.dev.params.get 18 then
                e.seq =
                  { q with
                    state := .off, attempts := q.attempts + 1, crank := none, gap := some (s.dev.params.get 19 * 1000),
                    crankTime := 0 }
              else
                e.seq = { q with state := .lockedOut, attempts := q.attempts + 1, crank := none, crankTime := 0 }
                  ∧ (e.notices.get .veh).hasHeld .startLockout = true
                  ∧ (e.notices.get .eng).hasHeld .startLockout = true))
      ∧ (s.dev.hands .svc →
          (q.state ≠ .lockedOut → Becomes (.engineUnlock .svc tag) s (s.dev.replied .svc 0x22 tag .notHeld []))
            ∧ (q.state = .lockedOut → s.dev.mode.mode ≠ .shutdown →
                Yields (.engineUnlock .svc tag) s fun e =>
                  let off : Sequencer := { q with state := .off, attempts := 0, gap := none }
                  s.dev.answeredNext e .svc 0x22 tag .done []
                    ∧ e.seq = (if s.dev.mayCrank ∧ s.dev.dwellBars = false then off.cranks s.dev.params else off)
                    ∧ e =
                      { s.dev.heard .svc with
                        seq := e.seq, ring := e.ring, tx := e.tx, svc := e.svc,
                        notices := { s.dev.notices with veh := e.notices.veh, svc := e.notices.svc },
                        free := e.free }))

/-- The retry gap's and the off-dwell's expiries start a crank from OFF where the start condition holds (R121, R123,
R130); the cooldown's stops the engine (R126); the stop timer's leaves STOPPING as it is, with STOP_TIMEOUT held at VEH
and ENG (R127). -/
def Obligations.SequencerTimers : Prop :=
  ∀ (s : State), s.dev.inReset = false →
    let q := s.dev.seq
    (q.gap.isSome →
        let idle : Sequencer := { q with gap := none }
        Becomes .retryGapExpiry s
          { s.dev with
            seq := if q.state = .off ∧ s.dev.mayCrank ∧ s.dev.dwellBars = false then idle.cranks s.dev.params
                   else idle })
      ∧ (q.offDwell.isSome →
          let idle : Sequencer := { q with offDwell := none }
          Becomes .offDwellExpiry s
            { s.dev with
              seq := if q.state = .off ∧ s.dev.mayCrank ∧ q.gap = none then idle.cranks s.dev.params else idle })
      ∧ (q.cool.isSome → Becomes .cooldownExpiry s { s.dev with seq := q.stops s.dev.params })
      ∧ (q.stop.isSome →
          Yields .stopTimeout s fun e =>
            (e.notices.get .veh).hasHeld .stopTimeout = true ∧ (e.notices.get .eng).hasHeld .stopTimeout = true
              ∧ e =
                { s.dev with
                  seq := { q with stop := none }, ring := e.ring, svc := { s.dev.svc with overruns := e.svc.overruns },
                  tx := { s.dev.tx with svc := e.tx.svc },
                  notices :=
                    { s.dev.notices with veh := e.notices.veh, svc := e.notices.svc, eng := e.notices.eng },
                  free := e.free })

/-- The policy check restarts its timer at 100 ms and, while the directive is POLICY, starts, stops or keeps the engine by
what the policy wants; a directive of a claim is left to the claim (R121, R125, R126, R132, R133). -/
def Obligations.PolicyCheck : Prop :=
  ∀ (s : State), s.dev.inReset = false → s.dev.seq.policy.isSome →
    let q : Sequencer := { s.dev.seq with policy := some 100 }
    let t := s.dev.params
    let low := decide (s.dev.account.eBat < s.dev.route.eRes + t.get 7 * 1000000)
    let assist := decide (0 < t.get 24) && decide (t.get 24 * 100 ≤ s.dev.alloc.duration)
    let run := !s.dev.account.anchored || low || assist
    let stop :=
      !run && decide (s.dev.route.eRes + t.get 6 * 1000000 ≤ s.dev.account.eBat)
        && s.dev.seq.runTime.any (fun ms => decide (t.get 22 * 1000 ≤ ms))
    let policy := decide (s.dev.arbiter.holder = none) && decide (s.dev.mode.mode ≠ .park)
      && decide (s.dev.mode.mode ≠ .waking)
    Becomes .policyCheck s
      { s.dev with
        seq :=
          (match q.state with
            | .off =>
              if s.dev.mayCrank ∧ s.dev.dwellBars = false ∧ q.gap = none then q.cranks t else q
            | .running => if policy && stop then q.cools t else q
            | .cooldown => if policy && run then { q with state := .running, cool := none } else q
            | .cranking => q
            | .stopping => q
            | .lockedOut => q) }

/-! ## Transmission (chapter 9) -/

/-- The frame at the front of a port's queue starts its transmission as 32 bytes: its kind, the transmit alive counter and
the port, its fields in the layout of R180 with the notices as they then stand, zeros, and the CRC-8 of the first 31; a GRANT or SERVICE_STATUS takes the pulses with it, and held kinds stay
(R173, R175, R180). A completion removes the front frame; on SVC the drain may then place records (R166, R175). With no
frame to start or to end the event has no effect (log 26). -/
def Obligations.Transmission : Prop :=
  ∀ (p : Port) (s : State), s.dev.inReset = false →
    let q := s.dev.txq p
    let n := s.dev.notices.get p
    (q.sending ≠ none ∨ q.frames = [] → exec (.transmissionStart p) s = .next s)
      ∧ (q.sending = none → ∀ f ∈ q.frames.head?,
          Yields (.transmissionStart p) s fun e =>
            let b := (e.txq p).sending.getD []
            b.length = 32 ∧ b.take 2 = [f.kindCode, BitVec.ofNat 8 (q.alive.toNat * 16 + p.number)]
              ∧ b.drop 31 = [crc8 (b.take 31)]
              ∧ (b.take 31).drop 2 = (s.dev.layout n f ++ List.replicate 29 0).take 29
              ∧ e =
                { s.dev with
                  tx := s.dev.tx.set p { q with sending := some b, alive := q.alive + 1 },
                  notices :=
                    if f.isGrant = true ∨ f = .serviceStatus then s.dev.notices.set p { n with pulses := 0 }
                    else s.dev.notices })
      ∧ (q.sending = none → exec (.transmissionComplete p) s = .next s)
      ∧ (q.sending ≠ none →
          Yields (.transmissionComplete p) s fun e =>
            (e.txq p).sending = none ∧ (e.txq p).alive = q.alive
              ∧ (q.frames.drop 1).isPrefixOf (e.txq p).frames = true
              ∧ (p ≠ .svc ∨ s.dev.ring.drain = .idle →
                  e = { s.dev with tx := s.dev.tx.set p { q with frames := q.frames.drop 1, sending := none } })
              ∧ e =
                { s.dev with
                  tx := s.dev.tx.set p (e.txq p), ring := e.ring,
                  svc := { s.dev.svc with overruns := e.svc.overruns }, free := e.free })

/-! ## What every step keeps -/

/-- Every parameter stays in its range, and within the bounds that other parameters set it (R101, R142, R144, R181); the
enables keep the non-maskable bits on (R163, R181). -/
def Obligations.ParametersStay : Prop := StepKeeps (fun _ => True) fun d => d.params.sound

/-- A SILENT or LOST link stays empty, the counts of a link stay below those that would change its state, the clean run
below 20, and the unread list within the store's depth (R6 to R11, R15). A link's store holds its own member's frames, their
values within the ranges of R4, and the limits and R_prev that a cycle leaves stay in range (R42, R68); so with the
parameters in their ranges every input of a cycle is (R39, R181). -/
def Obligations.LinksStay : Prop :=
  StepKeeps (fun _ => True) Device.linksSound
    ∧ StepKeeps (fun _ => True) Device.valuesSound
    ∧ ∀ s t : State, s.dev.params.sound → s.dev.valuesSound → step s = .next t → t.dev.afterTakes.cycleIn.inRange

/-- The timers, marks and outputs of the mode controller stay those of the mode, and in PARK every block stays asleep as
PARK entry leaves it: the links, the claims, ZONE_STOP, the mode controller, the allocator but for its totals, the sequencer
but for the latest engine state, and the members' queues without a GRANT (R20 to R37, R61, R132, R135, R179). A mode does not stand where what ends it holds: WAKING while the links of R26 are
ALIGNED, LIMITED while the conditions of R27 hold, LIMITED or RUN while a door is open (R29), SHUTDOWN while the sequencer is
OFF or LOCKED_OUT and the write engine idle (R34). -/
def Obligations.ModesStay : Prop :=
  StepKeeps Device.seqSound (fun d => d.modeSound ∧ d.parkSound)
    ∧ StepKeeps (fun d => d.linksSound ∧ d.modeSound ∧ d.parkSound ∧ d.nvSound) Device.modeSettled

/-- The zone queue stays within 8 entries in order of start with distinct ids, each INSIDE exactly from its start on and
gone at its end; the reserve stays that of the queue, E_bat within E_cap, and ZONE_STOP raised exactly by its condition
outside PARK (R85, R91, R92, R101 to R105). -/
def Obligations.RouteStays : Prop :=
  StepKeeps (fun _ => True) fun d =>
    zonesSound d.route.zones ∧ zonesPlaced d.dRouteM d.route.zones ∧ d.energySound ∧ d.zoneStopSound

/-- At most one claim is HOLDING; the SUSPENDED claims stand on the stack with levels falling from the holder's; no PENDING
claim is above the holder; the fixed kinds have level 3; an internal claim is not IDLE exactly while it is raised (R108,
R110, R111). -/
def Obligations.ClaimsStay : Prop := StepKeeps (fun _ => True) fun d => d.arbiter.sound ∧ d.raisesSound

/-- The sequencer's timers stay those of its state, its attempts within 5, and it cranks in LIMITED, RUN and HALT alone and
never under a STOP directive (R120 to R131). -/
def Obligations.SequencerStays : Prop := StepKeeps (fun d => d.params.sound) Device.seqSound

/-- A wear item's remainder stays below its quantum and its state that of its count and marks; an idle write engine has
nothing pending, and a request awaits only a write that is outstanding (R136 to R139, R147 to R150). The mark blockFresh
inside nvSound, of a block write that may still give way, is the model's own (log 31). -/
def Obligations.WearAndStoreStay : Prop := StepKeeps (fun _ => True) fun d => d.wearSound ∧ d.nvSound

/-- The ring's positions stay in order with at most 256 unread records, each in its slot, and the drain stays evaluated
(chapter 8, R157 to R160, R166). -/
def Obligations.RingStays : Prop := StepKeeps (fun _ => True) fun d => d.ring.sound ∧ d.drainSettled

/-- A transmit queue stays within 8 frames of its port's kinds, with at most one waiting frame that carries notices, and
the status timer runs exactly while service is present (R175, R178). -/
def Obligations.TransmitStays : Prop := StepKeeps (fun _ => True) fun d => d.txSound ∧ d.svcSound

/-! ## What only some commands do -/

/-- PARK is left by a reset, by the ignition debounced ON and by a STATUS frame with the wake flag, and by nothing else; a
change to another mode raises MODE_CHANGED at all five members; an entry to PARK leaves no pulse and no waiting GRANT
(R5, R20, R24, R25, R36, R179). -/
def Obligations.ModeChanges : Prop :=
  ∀ (i : Instr) (s t : State), exec i s = .next t → i.isReset = false →
    (s.dev.modeSound → s.dev.mode.mode = .park → t.dev.mode.mode ≠ .park →
        (i = .ignitionDebounceExpiry ∧ s.dev.ignLine = true ∧ s.dev.mode.debounce.isSome)
          ∨ ∃ alive body, i = .statusFrame alive body ∧ body.wake = true)
      ∧ (t.dev.mode.mode ≠ s.dev.mode.mode → t.dev.mode.mode ≠ .park →
          ∀ m ∈ Member.all, (t.dev.notices.get m.port).hasPulse .modeChanged = true)
      ∧ (t.dev.mode.mode ≠ s.dev.mode.mode → t.dev.mode.mode = .park →
          (∀ p ∈ Port.all, (t.dev.notices.get p).pulses = 0)
            ∧ ∀ m ∈ Member.all, (t.dev.txq m.port).waiting.any TxFrame.isGrant = false)

/-- Short of a reset, a wear count falls only by WEAR_RESET and WEAR_SET, a held notice leaves a set only by its own port's
ACK_NOTICE, the run clock moves only by its tick, the parameters only by CONFIG_WRITE and RING_CONFIG, and the cells of
the store only by a completed write (R138, R146, R150, R155, R163, R172, R184). -/
def Obligations.OnlyTheirCommands : Prop :=
  ∀ (i : Instr) (s t : State), exec i s = .next t → i.isReset = false →
    ((∀ p tag item, i ≠ .wearReset p tag item) → (∀ p tag item n, i ≠ .wearSet p tag item n) →
        ∀ k ∈ Item.all, (s.dev.wear.get k).count ≤ (t.dev.wear.get k).count)
      ∧ (∀ p ∈ Port.all, (∀ tag kind, i ≠ .ackNotice p tag kind) →
          ∀ b ∈ List.range 8, (s.dev.notices.get p).held.getLsbD b = true → (t.dev.notices.get p).held.getLsbD b = true)
      ∧ (i ≠ .runClockTick → t.dev.runClock = s.dev.runClock)
      ∧ ((∀ p tag n v, i ≠ .configWrite p tag n v) → (∀ p tag m th en a b c d x, i ≠ .ringConfig p tag m th en a b c d x) →
          t.dev.params = s.dev.params)
      ∧ (i ≠ .nvWriteComplete → t.dev.nv.cells = s.dev.nv.cells ∧ t.dev.nv.block = s.dev.nv.block)

/-! ## Frames -/

/-- The frame of a well-formed command, with any transmit alive counter, passes the check of R1 on its port and is read as
that command: every field of R180 stands where the reading of it looks (R1, R176, R180; which command a frame makes:
log 28). -/
def Obligations.FramesReadBack : Prop :=
  ∀ (sender : BitVec 4) (i : Instr), i.wf = true →
    ∀ x ∈ framedOf i, ∀ f ∈ encodeFrame sender i, framePasses x.port f = true ∧ receiveFrame x.port f = i
end

