-- ==== Sys2Proof/Laws/Collections.lean ====
section
/-! SUPPORT. Reading after writing in the collections keyed by port, claim kind and wear item; membership of the lists
that name every key. -/

namespace Sys2Proof.Machine

/-! ## PerMember -/

@[simp] theorem PerMember.get_set_self {α : Type} (x : PerMember α) (m : Member) (a : α) : (x.set m a).get m = a := by
  cases m <;> rfl

@[simp] theorem PerMember.get_set_ne {α : Type} (x : PerMember α) {m j : Member} (h : j ≠ m) (a : α) :
    (x.set m a).get j = x.get j := by
  cases m <;> cases j <;> first | rfl | exact absurd rfl h

theorem PerMember.get_set {α : Type} (x : PerMember α) (m j : Member) (a : α) :
    (x.set m a).get j = if j = m then a else x.get j := by
  cases m <;> cases j <;> rfl

@[simp] theorem PerMember.set_get_self {α : Type} (x : PerMember α) (m : Member) : x.set m (x.get m) = x := by
  cases m <;> rfl

@[simp] theorem PerMember.set_set {α : Type} (x : PerMember α) (m : Member) (a b : α) : (x.set m a).set m b = x.set m b := by
  cases m <;> rfl

@[simp] theorem PerMember.get_map {α β : Type} (f : α → β) (x : PerMember α) (m : Member) : (x.map f).get m = f (x.get m) := by
  cases m <;> rfl

theorem PerMember.ext_get {α : Type} {x y : PerMember α} (h : ∀ m, x.get m = y.get m) : x = y := by
  cases x; cases y
  congr
  · exact h .veh
  · exact h .eng
  · exact h .bat
  · exact h .trc
  · exact h .brk

/-! ## PerPort -/

@[simp] theorem PerPort.get_set_self {α : Type} (x : PerPort α) (p : Port) (a : α) : (x.set p a).get p = a := by
  cases p <;> rfl

@[simp] theorem PerPort.get_set_ne {α : Type} (x : PerPort α) {p j : Port} (h : j ≠ p) (a : α) :
    (x.set p a).get j = x.get j := by
  cases p <;> cases j <;> first | rfl | exact absurd rfl h

theorem PerPort.get_set {α : Type} (x : PerPort α) (p j : Port) (a : α) :
    (x.set p a).get j = if j = p then a else x.get j := by
  cases p <;> cases j <;> rfl

@[simp] theorem PerPort.set_get_self {α : Type} (x : PerPort α) (p : Port) : x.set p (x.get p) = x := by
  cases p <;> rfl

@[simp] theorem PerPort.set_set {α : Type} (x : PerPort α) (p : Port) (a b : α) : (x.set p a).set p b = x.set p b := by
  cases p <;> rfl

@[simp] theorem PerPort.get_map {α β : Type} (f : α → β) (x : PerPort α) (p : Port) : (x.map f).get p = f (x.get p) := by
  cases p <;> rfl

theorem PerPort.ext_get {α : Type} {x y : PerPort α} (h : ∀ p, x.get p = y.get p) : x = y := by
  cases x; cases y
  congr
  · exact h .veh
  · exact h .eng
  · exact h .bat
  · exact h .trc
  · exact h .brk
  · exact h .svc

/-! ## PerClaim -/

@[simp] theorem PerClaim.get_set_self {α : Type} (x : PerClaim α) (k : ClaimKind) (a : α) : (x.set k a).get k = a := by
  cases k <;> rfl

@[simp] theorem PerClaim.get_set_ne {α : Type} (x : PerClaim α) {k j : ClaimKind} (h : j ≠ k) (a : α) :
    (x.set k a).get j = x.get j := by
  cases k <;> cases j <;> first | rfl | exact absurd rfl h

theorem PerClaim.get_set {α : Type} (x : PerClaim α) (k j : ClaimKind) (a : α) :
    (x.set k a).get j = if j = k then a else x.get j := by
  cases k <;> cases j <;> rfl

@[simp] theorem PerClaim.set_get_self {α : Type} (x : PerClaim α) (k : ClaimKind) : x.set k (x.get k) = x := by
  cases k <;> rfl

@[simp] theorem PerClaim.set_set {α : Type} (x : PerClaim α) (k : ClaimKind) (a b : α) : (x.set k a).set k b = x.set k b := by
  cases k <;> rfl

@[simp] theorem PerClaim.get_map {α β : Type} (f : α → β) (x : PerClaim α) (k : ClaimKind) : (x.map f).get k = f (x.get k) := by
  cases k <;> rfl

theorem PerClaim.ext_get {α : Type} {x y : PerClaim α} (h : ∀ k, x.get k = y.get k) : x = y := by
  cases x; cases y
  congr
  · exact h .engProtectStop
  · exact h .keyOffStop
  · exact h .zoneStop
  · exact h .svcStop
  · exact h .lowChargeRun
  · exact h .filterRun
  · exact h .heatRun
  · exact h .haltStop

/-! ## PerItem -/

@[simp] theorem PerItem.get_set_self {α : Type} (x : PerItem α) (i : Item) (a : α) : (x.set i a).get i = a := by
  cases i <;> rfl

@[simp] theorem PerItem.get_set_ne {α : Type} (x : PerItem α) {i j : Item} (h : j ≠ i) (a : α) :
    (x.set i a).get j = x.get j := by
  cases i <;> cases j <;> first | rfl | exact absurd rfl h

theorem PerItem.get_set {α : Type} (x : PerItem α) (i j : Item) (a : α) :
    (x.set i a).get j = if j = i then a else x.get j := by
  cases i <;> cases j <;> rfl

@[simp] theorem PerItem.set_get_self {α : Type} (x : PerItem α) (i : Item) : x.set i (x.get i) = x := by
  cases i <;> rfl

@[simp] theorem PerItem.set_set {α : Type} (x : PerItem α) (i : Item) (a b : α) : (x.set i a).set i b = x.set i b := by
  cases i <;> rfl

@[simp] theorem PerItem.get_map {α β : Type} (f : α → β) (x : PerItem α) (i : Item) : (x.map f).get i = f (x.get i) := by
  cases i <;> rfl

theorem PerItem.ext_get {α : Type} {x y : PerItem α} (h : ∀ i, x.get i = y.get i) : x = y := by
  cases x; cases y
  congr
  · exact h .liningF
  · exact h .liningR
  · exact h .batThru
  · exact h .engStart
  · exact h .engRun

/-! ## Lists of every key -/

@[simp] theorem Member.mem_all (m : Member) : m ∈ Member.all := by cases m <;> decide

@[simp] theorem ClaimKind.mem_all (k : ClaimKind) : k ∈ ClaimKind.all := by cases k <;> decide

@[simp] theorem Item.mem_all (i : Item) : i ∈ Item.all := by cases i <;> decide

/-- A member's number names it (R13). -/
@[simp] theorem Member.ofNumber_number (m : Member) : Member.ofNumber m.number = some m := by cases m <;> rfl

/-- A claim kind's code names it (R108). -/
@[simp] theorem ClaimKind.ofCode_code (k : ClaimKind) : ClaimKind.ofCode k.code = some k := by cases k <;> rfl

/-- An item's code names it (R136). -/
@[simp] theorem Item.ofCode_code (i : Item) : Item.ofCode i.code = some i := by cases i <;> rfl

end Sys2Proof.Machine
end

