-- ==== Sys2Proof/Laws/State.lean ====
section
/-! SUPPORT. One lemma per field per named update of the state: what each update leaves and what it writes. -/

namespace Sys2Proof.Machine

/-! ## setLink -/

@[simp] theorem setLink_inReset (d : Device) (m : Member) (l : Link) : (d.setLink m l).inReset = d.inReset := rfl
@[simp] theorem setLink_ignLine (d : Device) (m : Member) (l : Link) : (d.setLink m l).ignLine = d.ignLine := rfl
@[simp] theorem setLink_doorLine (d : Device) (m : Member) (l : Link) : (d.setLink m l).doorLine = d.doorLine := rfl
@[simp] theorem setLink_mode (d : Device) (m : Member) (l : Link) : (d.setLink m l).mode = d.mode := rfl
@[simp] theorem setLink_links (d : Device) (m : Member) (l : Link) : (d.setLink m l).links = d.links.set m l := rfl
@[simp] theorem setLink_svc (d : Device) (m : Member) (l : Link) : (d.setLink m l).svc = d.svc := rfl
@[simp] theorem setLink_alloc (d : Device) (m : Member) (l : Link) : (d.setLink m l).alloc = d.alloc := rfl
@[simp] theorem setLink_account (d : Device) (m : Member) (l : Link) : (d.setLink m l).account = d.account := rfl
@[simp] theorem setLink_route (d : Device) (m : Member) (l : Link) : (d.setLink m l).route = d.route := rfl
@[simp] theorem setLink_arbiter (d : Device) (m : Member) (l : Link) : (d.setLink m l).arbiter = d.arbiter := rfl
@[simp] theorem setLink_seq (d : Device) (m : Member) (l : Link) : (d.setLink m l).seq = d.seq := rfl
@[simp] theorem setLink_wear (d : Device) (m : Member) (l : Link) : (d.setLink m l).wear = d.wear := rfl
@[simp] theorem setLink_nv (d : Device) (m : Member) (l : Link) : (d.setLink m l).nv = d.nv := rfl
@[simp] theorem setLink_params (d : Device) (m : Member) (l : Link) : (d.setLink m l).params = d.params := rfl
@[simp] theorem setLink_ring (d : Device) (m : Member) (l : Link) : (d.setLink m l).ring = d.ring := rfl
@[simp] theorem setLink_runClock (d : Device) (m : Member) (l : Link) : (d.setLink m l).runClock = d.runClock := rfl
@[simp] theorem setLink_clockLeft (d : Device) (m : Member) (l : Link) :
    (d.setLink m l).clockLeft = d.clockLeft := rfl
@[simp] theorem setLink_notices (d : Device) (m : Member) (l : Link) : (d.setLink m l).notices = d.notices := rfl
@[simp] theorem setLink_tx (d : Device) (m : Member) (l : Link) : (d.setLink m l).tx = d.tx := rfl
@[simp] theorem setLink_free (d : Device) (m : Member) (l : Link) : (d.setLink m l).free = d.free := rfl

/-! ## setTxq -/

@[simp] theorem setTxq_inReset (d : Device) (p : Port) (q : TxQueue) : (d.setTxq p q).inReset = d.inReset := rfl
@[simp] theorem setTxq_ignLine (d : Device) (p : Port) (q : TxQueue) : (d.setTxq p q).ignLine = d.ignLine := rfl
@[simp] theorem setTxq_doorLine (d : Device) (p : Port) (q : TxQueue) : (d.setTxq p q).doorLine = d.doorLine := rfl
@[simp] theorem setTxq_mode (d : Device) (p : Port) (q : TxQueue) : (d.setTxq p q).mode = d.mode := rfl
@[simp] theorem setTxq_links (d : Device) (p : Port) (q : TxQueue) : (d.setTxq p q).links = d.links := rfl
@[simp] theorem setTxq_svc (d : Device) (p : Port) (q : TxQueue) : (d.setTxq p q).svc = d.svc := rfl
@[simp] theorem setTxq_alloc (d : Device) (p : Port) (q : TxQueue) : (d.setTxq p q).alloc = d.alloc := rfl
@[simp] theorem setTxq_account (d : Device) (p : Port) (q : TxQueue) : (d.setTxq p q).account = d.account := rfl
@[simp] theorem setTxq_route (d : Device) (p : Port) (q : TxQueue) : (d.setTxq p q).route = d.route := rfl
@[simp] theorem setTxq_arbiter (d : Device) (p : Port) (q : TxQueue) : (d.setTxq p q).arbiter = d.arbiter := rfl
@[simp] theorem setTxq_seq (d : Device) (p : Port) (q : TxQueue) : (d.setTxq p q).seq = d.seq := rfl
@[simp] theorem setTxq_wear (d : Device) (p : Port) (q : TxQueue) : (d.setTxq p q).wear = d.wear := rfl
@[simp] theorem setTxq_nv (d : Device) (p : Port) (q : TxQueue) : (d.setTxq p q).nv = d.nv := rfl
@[simp] theorem setTxq_params (d : Device) (p : Port) (q : TxQueue) : (d.setTxq p q).params = d.params := rfl
@[simp] theorem setTxq_ring (d : Device) (p : Port) (q : TxQueue) : (d.setTxq p q).ring = d.ring := rfl
@[simp] theorem setTxq_runClock (d : Device) (p : Port) (q : TxQueue) : (d.setTxq p q).runClock = d.runClock := rfl
@[simp] theorem setTxq_clockLeft (d : Device) (p : Port) (q : TxQueue) : (d.setTxq p q).clockLeft = d.clockLeft := rfl
@[simp] theorem setTxq_notices (d : Device) (p : Port) (q : TxQueue) : (d.setTxq p q).notices = d.notices := rfl
@[simp] theorem setTxq_tx (d : Device) (p : Port) (q : TxQueue) : (d.setTxq p q).tx = d.tx.set p q := rfl
@[simp] theorem setTxq_free (d : Device) (p : Port) (q : TxQueue) : (d.setTxq p q).free = d.free := rfl

/-! ## setClaim -/

@[simp] theorem setClaim_inReset (d : Device) (k : ClaimKind) (c : Claim) :
    (d.setClaim k c).inReset = d.inReset := rfl
@[simp] theorem setClaim_ignLine (d : Device) (k : ClaimKind) (c : Claim) :
    (d.setClaim k c).ignLine = d.ignLine := rfl
@[simp] theorem setClaim_doorLine (d : Device) (k : ClaimKind) (c : Claim) :
    (d.setClaim k c).doorLine = d.doorLine := rfl
@[simp] theorem setClaim_mode (d : Device) (k : ClaimKind) (c : Claim) : (d.setClaim k c).mode = d.mode := rfl
@[simp] theorem setClaim_links (d : Device) (k : ClaimKind) (c : Claim) : (d.setClaim k c).links = d.links := rfl
@[simp] theorem setClaim_svc (d : Device) (k : ClaimKind) (c : Claim) : (d.setClaim k c).svc = d.svc := rfl
@[simp] theorem setClaim_alloc (d : Device) (k : ClaimKind) (c : Claim) : (d.setClaim k c).alloc = d.alloc := rfl
@[simp] theorem setClaim_account (d : Device) (k : ClaimKind) (c : Claim) :
    (d.setClaim k c).account = d.account := rfl
@[simp] theorem setClaim_route (d : Device) (k : ClaimKind) (c : Claim) : (d.setClaim k c).route = d.route := rfl
@[simp] theorem setClaim_arbiter (d : Device) (k : ClaimKind) (c : Claim) :
    (d.setClaim k c).arbiter = { d.arbiter with claims := d.arbiter.claims.set k c } := rfl
@[simp] theorem setClaim_seq (d : Device) (k : ClaimKind) (c : Claim) : (d.setClaim k c).seq = d.seq := rfl
@[simp] theorem setClaim_wear (d : Device) (k : ClaimKind) (c : Claim) : (d.setClaim k c).wear = d.wear := rfl
@[simp] theorem setClaim_nv (d : Device) (k : ClaimKind) (c : Claim) : (d.setClaim k c).nv = d.nv := rfl
@[simp] theorem setClaim_params (d : Device) (k : ClaimKind) (c : Claim) : (d.setClaim k c).params = d.params := rfl
@[simp] theorem setClaim_ring (d : Device) (k : ClaimKind) (c : Claim) : (d.setClaim k c).ring = d.ring := rfl
@[simp] theorem setClaim_runClock (d : Device) (k : ClaimKind) (c : Claim) :
    (d.setClaim k c).runClock = d.runClock := rfl
@[simp] theorem setClaim_clockLeft (d : Device) (k : ClaimKind) (c : Claim) :
    (d.setClaim k c).clockLeft = d.clockLeft := rfl
@[simp] theorem setClaim_notices (d : Device) (k : ClaimKind) (c : Claim) :
    (d.setClaim k c).notices = d.notices := rfl
@[simp] theorem setClaim_tx (d : Device) (k : ClaimKind) (c : Claim) : (d.setClaim k c).tx = d.tx := rfl
@[simp] theorem setClaim_free (d : Device) (k : ClaimKind) (c : Claim) : (d.setClaim k c).free = d.free := rfl

/-! ## setSeq -/

@[simp] theorem setSeq_inReset (d : Device) (q : Sequencer) : (d.setSeq q).inReset = d.inReset := rfl
@[simp] theorem setSeq_ignLine (d : Device) (q : Sequencer) : (d.setSeq q).ignLine = d.ignLine := rfl
@[simp] theorem setSeq_doorLine (d : Device) (q : Sequencer) : (d.setSeq q).doorLine = d.doorLine := rfl
@[simp] theorem setSeq_mode (d : Device) (q : Sequencer) : (d.setSeq q).mode = d.mode := rfl
@[simp] theorem setSeq_links (d : Device) (q : Sequencer) : (d.setSeq q).links = d.links := rfl
@[simp] theorem setSeq_svc (d : Device) (q : Sequencer) : (d.setSeq q).svc = d.svc := rfl
@[simp] theorem setSeq_alloc (d : Device) (q : Sequencer) : (d.setSeq q).alloc = d.alloc := rfl
@[simp] theorem setSeq_account (d : Device) (q : Sequencer) : (d.setSeq q).account = d.account := rfl
@[simp] theorem setSeq_route (d : Device) (q : Sequencer) : (d.setSeq q).route = d.route := rfl
@[simp] theorem setSeq_arbiter (d : Device) (q : Sequencer) : (d.setSeq q).arbiter = d.arbiter := rfl
@[simp] theorem setSeq_seq (d : Device) (q : Sequencer) : (d.setSeq q).seq = q := rfl
@[simp] theorem setSeq_wear (d : Device) (q : Sequencer) : (d.setSeq q).wear = d.wear := rfl
@[simp] theorem setSeq_nv (d : Device) (q : Sequencer) : (d.setSeq q).nv = d.nv := rfl
@[simp] theorem setSeq_params (d : Device) (q : Sequencer) : (d.setSeq q).params = d.params := rfl
@[simp] theorem setSeq_ring (d : Device) (q : Sequencer) : (d.setSeq q).ring = d.ring := rfl
@[simp] theorem setSeq_runClock (d : Device) (q : Sequencer) : (d.setSeq q).runClock = d.runClock := rfl
@[simp] theorem setSeq_clockLeft (d : Device) (q : Sequencer) : (d.setSeq q).clockLeft = d.clockLeft := rfl
@[simp] theorem setSeq_notices (d : Device) (q : Sequencer) : (d.setSeq q).notices = d.notices := rfl
@[simp] theorem setSeq_tx (d : Device) (q : Sequencer) : (d.setSeq q).tx = d.tx := rfl
@[simp] theorem setSeq_free (d : Device) (q : Sequencer) : (d.setSeq q).free = d.free := rfl

/-! ## setMode -/

@[simp] theorem setMode_inReset (d : Device) (m : ModeCtl) : (d.setMode m).inReset = d.inReset := rfl
@[simp] theorem setMode_ignLine (d : Device) (m : ModeCtl) : (d.setMode m).ignLine = d.ignLine := rfl
@[simp] theorem setMode_doorLine (d : Device) (m : ModeCtl) : (d.setMode m).doorLine = d.doorLine := rfl
@[simp] theorem setMode_mode (d : Device) (m : ModeCtl) : (d.setMode m).mode = m := rfl
@[simp] theorem setMode_links (d : Device) (m : ModeCtl) : (d.setMode m).links = d.links := rfl
@[simp] theorem setMode_svc (d : Device) (m : ModeCtl) : (d.setMode m).svc = d.svc := rfl
@[simp] theorem setMode_alloc (d : Device) (m : ModeCtl) : (d.setMode m).alloc = d.alloc := rfl
@[simp] theorem setMode_account (d : Device) (m : ModeCtl) : (d.setMode m).account = d.account := rfl
@[simp] theorem setMode_route (d : Device) (m : ModeCtl) : (d.setMode m).route = d.route := rfl
@[simp] theorem setMode_arbiter (d : Device) (m : ModeCtl) : (d.setMode m).arbiter = d.arbiter := rfl
@[simp] theorem setMode_seq (d : Device) (m : ModeCtl) : (d.setMode m).seq = d.seq := rfl
@[simp] theorem setMode_wear (d : Device) (m : ModeCtl) : (d.setMode m).wear = d.wear := rfl
@[simp] theorem setMode_nv (d : Device) (m : ModeCtl) : (d.setMode m).nv = d.nv := rfl
@[simp] theorem setMode_params (d : Device) (m : ModeCtl) : (d.setMode m).params = d.params := rfl
@[simp] theorem setMode_ring (d : Device) (m : ModeCtl) : (d.setMode m).ring = d.ring := rfl
@[simp] theorem setMode_runClock (d : Device) (m : ModeCtl) : (d.setMode m).runClock = d.runClock := rfl
@[simp] theorem setMode_clockLeft (d : Device) (m : ModeCtl) : (d.setMode m).clockLeft = d.clockLeft := rfl
@[simp] theorem setMode_notices (d : Device) (m : ModeCtl) : (d.setMode m).notices = d.notices := rfl
@[simp] theorem setMode_tx (d : Device) (m : ModeCtl) : (d.setMode m).tx = d.tx := rfl
@[simp] theorem setMode_free (d : Device) (m : ModeCtl) : (d.setMode m).free = d.free := rfl

/-! ## setWear -/

@[simp] theorem setWear_inReset (d : Device) (i : Item) (w : WearItem) : (d.setWear i w).inReset = d.inReset := rfl
@[simp] theorem setWear_ignLine (d : Device) (i : Item) (w : WearItem) : (d.setWear i w).ignLine = d.ignLine := rfl
@[simp] theorem setWear_doorLine (d : Device) (i : Item) (w : WearItem) : (d.setWear i w).doorLine = d.doorLine := rfl
@[simp] theorem setWear_mode (d : Device) (i : Item) (w : WearItem) : (d.setWear i w).mode = d.mode := rfl
@[simp] theorem setWear_links (d : Device) (i : Item) (w : WearItem) : (d.setWear i w).links = d.links := rfl
@[simp] theorem setWear_svc (d : Device) (i : Item) (w : WearItem) : (d.setWear i w).svc = d.svc := rfl
@[simp] theorem setWear_alloc (d : Device) (i : Item) (w : WearItem) : (d.setWear i w).alloc = d.alloc := rfl
@[simp] theorem setWear_account (d : Device) (i : Item) (w : WearItem) : (d.setWear i w).account = d.account := rfl
@[simp] theorem setWear_route (d : Device) (i : Item) (w : WearItem) : (d.setWear i w).route = d.route := rfl
@[simp] theorem setWear_arbiter (d : Device) (i : Item) (w : WearItem) : (d.setWear i w).arbiter = d.arbiter := rfl
@[simp] theorem setWear_seq (d : Device) (i : Item) (w : WearItem) : (d.setWear i w).seq = d.seq := rfl
@[simp] theorem setWear_wear (d : Device) (i : Item) (w : WearItem) : (d.setWear i w).wear = d.wear.set i w := rfl
@[simp] theorem setWear_nv (d : Device) (i : Item) (w : WearItem) : (d.setWear i w).nv = d.nv := rfl
@[simp] theorem setWear_params (d : Device) (i : Item) (w : WearItem) : (d.setWear i w).params = d.params := rfl
@[simp] theorem setWear_ring (d : Device) (i : Item) (w : WearItem) : (d.setWear i w).ring = d.ring := rfl
@[simp] theorem setWear_runClock (d : Device) (i : Item) (w : WearItem) : (d.setWear i w).runClock = d.runClock := rfl
@[simp] theorem setWear_clockLeft (d : Device) (i : Item) (w : WearItem) :
    (d.setWear i w).clockLeft = d.clockLeft := rfl
@[simp] theorem setWear_notices (d : Device) (i : Item) (w : WearItem) : (d.setWear i w).notices = d.notices := rfl
@[simp] theorem setWear_tx (d : Device) (i : Item) (w : WearItem) : (d.setWear i w).tx = d.tx := rfl
@[simp] theorem setWear_free (d : Device) (i : Item) (w : WearItem) : (d.setWear i w).free = d.free := rfl

/-! ## setAlloc -/

@[simp] theorem setAlloc_inReset (d : Device) (a : Allocator) : (d.setAlloc a).inReset = d.inReset := rfl
@[simp] theorem setAlloc_ignLine (d : Device) (a : Allocator) : (d.setAlloc a).ignLine = d.ignLine := rfl
@[simp] theorem setAlloc_doorLine (d : Device) (a : Allocator) : (d.setAlloc a).doorLine = d.doorLine := rfl
@[simp] theorem setAlloc_mode (d : Device) (a : Allocator) : (d.setAlloc a).mode = d.mode := rfl
@[simp] theorem setAlloc_links (d : Device) (a : Allocator) : (d.setAlloc a).links = d.links := rfl
@[simp] theorem setAlloc_svc (d : Device) (a : Allocator) : (d.setAlloc a).svc = d.svc := rfl
@[simp] theorem setAlloc_alloc (d : Device) (a : Allocator) : (d.setAlloc a).alloc = a := rfl
@[simp] theorem setAlloc_account (d : Device) (a : Allocator) : (d.setAlloc a).account = d.account := rfl
@[simp] theorem setAlloc_route (d : Device) (a : Allocator) : (d.setAlloc a).route = d.route := rfl
@[simp] theorem setAlloc_arbiter (d : Device) (a : Allocator) : (d.setAlloc a).arbiter = d.arbiter := rfl
@[simp] theorem setAlloc_seq (d : Device) (a : Allocator) : (d.setAlloc a).seq = d.seq := rfl
@[simp] theorem setAlloc_wear (d : Device) (a : Allocator) : (d.setAlloc a).wear = d.wear := rfl
@[simp] theorem setAlloc_nv (d : Device) (a : Allocator) : (d.setAlloc a).nv = d.nv := rfl
@[simp] theorem setAlloc_params (d : Device) (a : Allocator) : (d.setAlloc a).params = d.params := rfl
@[simp] theorem setAlloc_ring (d : Device) (a : Allocator) : (d.setAlloc a).ring = d.ring := rfl
@[simp] theorem setAlloc_runClock (d : Device) (a : Allocator) : (d.setAlloc a).runClock = d.runClock := rfl
@[simp] theorem setAlloc_clockLeft (d : Device) (a : Allocator) : (d.setAlloc a).clockLeft = d.clockLeft := rfl
@[simp] theorem setAlloc_notices (d : Device) (a : Allocator) : (d.setAlloc a).notices = d.notices := rfl
@[simp] theorem setAlloc_tx (d : Device) (a : Allocator) : (d.setAlloc a).tx = d.tx := rfl
@[simp] theorem setAlloc_free (d : Device) (a : Allocator) : (d.setAlloc a).free = d.free := rfl

/-! ## setZones -/

@[simp] theorem setZones_inReset (d : Device) (zs : List Zone) : (d.setZones zs).inReset = d.inReset := rfl
@[simp] theorem setZones_ignLine (d : Device) (zs : List Zone) : (d.setZones zs).ignLine = d.ignLine := rfl
@[simp] theorem setZones_doorLine (d : Device) (zs : List Zone) : (d.setZones zs).doorLine = d.doorLine := rfl
@[simp] theorem setZones_mode (d : Device) (zs : List Zone) : (d.setZones zs).mode = d.mode := rfl
@[simp] theorem setZones_links (d : Device) (zs : List Zone) : (d.setZones zs).links = d.links := rfl
@[simp] theorem setZones_svc (d : Device) (zs : List Zone) : (d.setZones zs).svc = d.svc := rfl
@[simp] theorem setZones_alloc (d : Device) (zs : List Zone) : (d.setZones zs).alloc = d.alloc := rfl
@[simp] theorem setZones_account (d : Device) (zs : List Zone) : (d.setZones zs).account = d.account := rfl
@[simp] theorem setZones_route (d : Device) (zs : List Zone) :
    (d.setZones zs).route = { d.route with zones := zs } := rfl
@[simp] theorem setZones_arbiter (d : Device) (zs : List Zone) : (d.setZones zs).arbiter = d.arbiter := rfl
@[simp] theorem setZones_seq (d : Device) (zs : List Zone) : (d.setZones zs).seq = d.seq := rfl
@[simp] theorem setZones_wear (d : Device) (zs : List Zone) : (d.setZones zs).wear = d.wear := rfl
@[simp] theorem setZones_nv (d : Device) (zs : List Zone) : (d.setZones zs).nv = d.nv := rfl
@[simp] theorem setZones_params (d : Device) (zs : List Zone) : (d.setZones zs).params = d.params := rfl
@[simp] theorem setZones_ring (d : Device) (zs : List Zone) : (d.setZones zs).ring = d.ring := rfl
@[simp] theorem setZones_runClock (d : Device) (zs : List Zone) : (d.setZones zs).runClock = d.runClock := rfl
@[simp] theorem setZones_clockLeft (d : Device) (zs : List Zone) : (d.setZones zs).clockLeft = d.clockLeft := rfl
@[simp] theorem setZones_notices (d : Device) (zs : List Zone) : (d.setZones zs).notices = d.notices := rfl
@[simp] theorem setZones_tx (d : Device) (zs : List Zone) : (d.setZones zs).tx = d.tx := rfl
@[simp] theorem setZones_free (d : Device) (zs : List Zone) : (d.setZones zs).free = d.free := rfl

/-! ## setEnergy -/

@[simp] theorem setEnergy_inReset (d : Device) (e : Nat) : (d.setEnergy e).inReset = d.inReset := rfl
@[simp] theorem setEnergy_ignLine (d : Device) (e : Nat) : (d.setEnergy e).ignLine = d.ignLine := rfl
@[simp] theorem setEnergy_doorLine (d : Device) (e : Nat) : (d.setEnergy e).doorLine = d.doorLine := rfl
@[simp] theorem setEnergy_mode (d : Device) (e : Nat) : (d.setEnergy e).mode = d.mode := rfl
@[simp] theorem setEnergy_links (d : Device) (e : Nat) : (d.setEnergy e).links = d.links := rfl
@[simp] theorem setEnergy_svc (d : Device) (e : Nat) : (d.setEnergy e).svc = d.svc := rfl
@[simp] theorem setEnergy_alloc (d : Device) (e : Nat) : (d.setEnergy e).alloc = d.alloc := rfl
@[simp] theorem setEnergy_account (d : Device) (e : Nat) :
    (d.setEnergy e).account = { d.account with eBat := e } := rfl
@[simp] theorem setEnergy_route (d : Device) (e : Nat) : (d.setEnergy e).route = d.route := rfl
@[simp] theorem setEnergy_arbiter (d : Device) (e : Nat) : (d.setEnergy e).arbiter = d.arbiter := rfl
@[simp] theorem setEnergy_seq (d : Device) (e : Nat) : (d.setEnergy e).seq = d.seq := rfl
@[simp] theorem setEnergy_wear (d : Device) (e : Nat) : (d.setEnergy e).wear = d.wear := rfl
@[simp] theorem setEnergy_nv (d : Device) (e : Nat) : (d.setEnergy e).nv = d.nv := rfl
@[simp] theorem setEnergy_params (d : Device) (e : Nat) : (d.setEnergy e).params = d.params := rfl
@[simp] theorem setEnergy_ring (d : Device) (e : Nat) : (d.setEnergy e).ring = d.ring := rfl
@[simp] theorem setEnergy_runClock (d : Device) (e : Nat) : (d.setEnergy e).runClock = d.runClock := rfl
@[simp] theorem setEnergy_clockLeft (d : Device) (e : Nat) : (d.setEnergy e).clockLeft = d.clockLeft := rfl
@[simp] theorem setEnergy_notices (d : Device) (e : Nat) : (d.setEnergy e).notices = d.notices := rfl
@[simp] theorem setEnergy_tx (d : Device) (e : Nat) : (d.setEnergy e).tx = d.tx := rfl
@[simp] theorem setEnergy_free (d : Device) (e : Nat) : (d.setEnergy e).free = d.free := rfl

/-! ## setNv -/

@[simp] theorem setNv_inReset (d : Device) (nv : Nv) : (d.setNv nv).inReset = d.inReset := rfl
@[simp] theorem setNv_ignLine (d : Device) (nv : Nv) : (d.setNv nv).ignLine = d.ignLine := rfl
@[simp] theorem setNv_doorLine (d : Device) (nv : Nv) : (d.setNv nv).doorLine = d.doorLine := rfl
@[simp] theorem setNv_mode (d : Device) (nv : Nv) : (d.setNv nv).mode = d.mode := rfl
@[simp] theorem setNv_links (d : Device) (nv : Nv) : (d.setNv nv).links = d.links := rfl
@[simp] theorem setNv_svc (d : Device) (nv : Nv) : (d.setNv nv).svc = d.svc := rfl
@[simp] theorem setNv_alloc (d : Device) (nv : Nv) : (d.setNv nv).alloc = d.alloc := rfl
@[simp] theorem setNv_account (d : Device) (nv : Nv) : (d.setNv nv).account = d.account := rfl
@[simp] theorem setNv_route (d : Device) (nv : Nv) : (d.setNv nv).route = d.route := rfl
@[simp] theorem setNv_arbiter (d : Device) (nv : Nv) : (d.setNv nv).arbiter = d.arbiter := rfl
@[simp] theorem setNv_seq (d : Device) (nv : Nv) : (d.setNv nv).seq = d.seq := rfl
@[simp] theorem setNv_wear (d : Device) (nv : Nv) : (d.setNv nv).wear = d.wear := rfl
@[simp] theorem setNv_nv (d : Device) (nv : Nv) : (d.setNv nv).nv = nv := rfl
@[simp] theorem setNv_params (d : Device) (nv : Nv) : (d.setNv nv).params = d.params := rfl
@[simp] theorem setNv_ring (d : Device) (nv : Nv) : (d.setNv nv).ring = d.ring := rfl
@[simp] theorem setNv_runClock (d : Device) (nv : Nv) : (d.setNv nv).runClock = d.runClock := rfl
@[simp] theorem setNv_clockLeft (d : Device) (nv : Nv) : (d.setNv nv).clockLeft = d.clockLeft := rfl
@[simp] theorem setNv_notices (d : Device) (nv : Nv) : (d.setNv nv).notices = d.notices := rfl
@[simp] theorem setNv_tx (d : Device) (nv : Nv) : (d.setNv nv).tx = d.tx := rfl
@[simp] theorem setNv_free (d : Device) (nv : Nv) : (d.setNv nv).free = d.free := rfl

/-- The mark of a fresh block write is a change of the store's state alone (R184; log 31). -/
@[simp] theorem markFresh_eq (d : Device) (idle : Bool) :
    d.markFresh idle = d.setNv { d.nv with blockFresh := idle } := rfl

/-! ## setRoute -/

@[simp] theorem setRoute_inReset (d : Device) (r : Route) : (d.setRoute r).inReset = d.inReset := rfl
@[simp] theorem setRoute_ignLine (d : Device) (r : Route) : (d.setRoute r).ignLine = d.ignLine := rfl
@[simp] theorem setRoute_doorLine (d : Device) (r : Route) : (d.setRoute r).doorLine = d.doorLine := rfl
@[simp] theorem setRoute_mode (d : Device) (r : Route) : (d.setRoute r).mode = d.mode := rfl
@[simp] theorem setRoute_links (d : Device) (r : Route) : (d.setRoute r).links = d.links := rfl
@[simp] theorem setRoute_svc (d : Device) (r : Route) : (d.setRoute r).svc = d.svc := rfl
@[simp] theorem setRoute_alloc (d : Device) (r : Route) : (d.setRoute r).alloc = d.alloc := rfl
@[simp] theorem setRoute_account (d : Device) (r : Route) : (d.setRoute r).account = d.account := rfl
@[simp] theorem setRoute_route (d : Device) (r : Route) : (d.setRoute r).route = r := rfl
@[simp] theorem setRoute_arbiter (d : Device) (r : Route) : (d.setRoute r).arbiter = d.arbiter := rfl
@[simp] theorem setRoute_seq (d : Device) (r : Route) : (d.setRoute r).seq = d.seq := rfl
@[simp] theorem setRoute_wear (d : Device) (r : Route) : (d.setRoute r).wear = d.wear := rfl
@[simp] theorem setRoute_nv (d : Device) (r : Route) : (d.setRoute r).nv = d.nv := rfl
@[simp] theorem setRoute_params (d : Device) (r : Route) : (d.setRoute r).params = d.params := rfl
@[simp] theorem setRoute_ring (d : Device) (r : Route) : (d.setRoute r).ring = d.ring := rfl
@[simp] theorem setRoute_runClock (d : Device) (r : Route) : (d.setRoute r).runClock = d.runClock := rfl
@[simp] theorem setRoute_clockLeft (d : Device) (r : Route) : (d.setRoute r).clockLeft = d.clockLeft := rfl
@[simp] theorem setRoute_notices (d : Device) (r : Route) : (d.setRoute r).notices = d.notices := rfl
@[simp] theorem setRoute_tx (d : Device) (r : Route) : (d.setRoute r).tx = d.tx := rfl
@[simp] theorem setRoute_free (d : Device) (r : Route) : (d.setRoute r).free = d.free := rfl

/-! ## setNotices -/

@[simp] theorem setNotices_inReset (d : Device) (n : PerPort NoticeSet) : (d.setNotices n).inReset = d.inReset := rfl
@[simp] theorem setNotices_ignLine (d : Device) (n : PerPort NoticeSet) : (d.setNotices n).ignLine = d.ignLine := rfl
@[simp] theorem setNotices_doorLine (d : Device) (n : PerPort NoticeSet) :
    (d.setNotices n).doorLine = d.doorLine := rfl
@[simp] theorem setNotices_mode (d : Device) (n : PerPort NoticeSet) : (d.setNotices n).mode = d.mode := rfl
@[simp] theorem setNotices_links (d : Device) (n : PerPort NoticeSet) : (d.setNotices n).links = d.links := rfl
@[simp] theorem setNotices_svc (d : Device) (n : PerPort NoticeSet) : (d.setNotices n).svc = d.svc := rfl
@[simp] theorem setNotices_alloc (d : Device) (n : PerPort NoticeSet) : (d.setNotices n).alloc = d.alloc := rfl
@[simp] theorem setNotices_account (d : Device) (n : PerPort NoticeSet) : (d.setNotices n).account = d.account := rfl
@[simp] theorem setNotices_route (d : Device) (n : PerPort NoticeSet) : (d.setNotices n).route = d.route := rfl
@[simp] theorem setNotices_arbiter (d : Device) (n : PerPort NoticeSet) : (d.setNotices n).arbiter = d.arbiter := rfl
@[simp] theorem setNotices_seq (d : Device) (n : PerPort NoticeSet) : (d.setNotices n).seq = d.seq := rfl
@[simp] theorem setNotices_wear (d : Device) (n : PerPort NoticeSet) : (d.setNotices n).wear = d.wear := rfl
@[simp] theorem setNotices_nv (d : Device) (n : PerPort NoticeSet) : (d.setNotices n).nv = d.nv := rfl
@[simp] theorem setNotices_params (d : Device) (n : PerPort NoticeSet) : (d.setNotices n).params = d.params := rfl
@[simp] theorem setNotices_ring (d : Device) (n : PerPort NoticeSet) : (d.setNotices n).ring = d.ring := rfl
@[simp] theorem setNotices_runClock (d : Device) (n : PerPort NoticeSet) :
    (d.setNotices n).runClock = d.runClock := rfl
@[simp] theorem setNotices_clockLeft (d : Device) (n : PerPort NoticeSet) :
    (d.setNotices n).clockLeft = d.clockLeft := rfl
@[simp] theorem setNotices_notices (d : Device) (n : PerPort NoticeSet) : (d.setNotices n).notices = n := rfl
@[simp] theorem setNotices_tx (d : Device) (n : PerPort NoticeSet) : (d.setNotices n).tx = d.tx := rfl
@[simp] theorem setNotices_free (d : Device) (n : PerPort NoticeSet) : (d.setNotices n).free = d.free := rfl

/-! ## withDrainIO -/

@[simp] theorem withDrainIO_inReset (d : Device) (io : DrainIO) : (d.withDrainIO io).inReset = d.inReset := rfl
@[simp] theorem withDrainIO_ignLine (d : Device) (io : DrainIO) : (d.withDrainIO io).ignLine = d.ignLine := rfl
@[simp] theorem withDrainIO_doorLine (d : Device) (io : DrainIO) : (d.withDrainIO io).doorLine = d.doorLine := rfl
@[simp] theorem withDrainIO_mode (d : Device) (io : DrainIO) : (d.withDrainIO io).mode = d.mode := rfl
@[simp] theorem withDrainIO_links (d : Device) (io : DrainIO) : (d.withDrainIO io).links = d.links := rfl
@[simp] theorem withDrainIO_svc (d : Device) (io : DrainIO) :
    (d.withDrainIO io).svc = { d.svc with overruns := io.overruns } := rfl
@[simp] theorem withDrainIO_alloc (d : Device) (io : DrainIO) : (d.withDrainIO io).alloc = d.alloc := rfl
@[simp] theorem withDrainIO_account (d : Device) (io : DrainIO) : (d.withDrainIO io).account = d.account := rfl
@[simp] theorem withDrainIO_route (d : Device) (io : DrainIO) : (d.withDrainIO io).route = d.route := rfl
@[simp] theorem withDrainIO_arbiter (d : Device) (io : DrainIO) : (d.withDrainIO io).arbiter = d.arbiter := rfl
@[simp] theorem withDrainIO_seq (d : Device) (io : DrainIO) : (d.withDrainIO io).seq = d.seq := rfl
@[simp] theorem withDrainIO_wear (d : Device) (io : DrainIO) : (d.withDrainIO io).wear = d.wear := rfl
@[simp] theorem withDrainIO_nv (d : Device) (io : DrainIO) : (d.withDrainIO io).nv = d.nv := rfl
@[simp] theorem withDrainIO_params (d : Device) (io : DrainIO) : (d.withDrainIO io).params = d.params := rfl
@[simp] theorem withDrainIO_ring (d : Device) (io : DrainIO) : (d.withDrainIO io).ring = io.ring := rfl
@[simp] theorem withDrainIO_runClock (d : Device) (io : DrainIO) : (d.withDrainIO io).runClock = d.runClock := rfl
@[simp] theorem withDrainIO_clockLeft (d : Device) (io : DrainIO) : (d.withDrainIO io).clockLeft = d.clockLeft := rfl
@[simp] theorem withDrainIO_notices (d : Device) (io : DrainIO) : (d.withDrainIO io).notices = d.notices := rfl
@[simp] theorem withDrainIO_tx (d : Device) (io : DrainIO) :
    (d.withDrainIO io).tx = { d.tx with svc := io.queue } := rfl
@[simp] theorem withDrainIO_free (d : Device) (io : DrainIO) : (d.withDrainIO io).free = io.free := rfl

/-! ## seenService -/

@[simp] theorem seenService_inReset (d : Device) : d.seenService.inReset = d.inReset := rfl
@[simp] theorem seenService_ignLine (d : Device) : d.seenService.ignLine = d.ignLine := rfl
@[simp] theorem seenService_doorLine (d : Device) : d.seenService.doorLine = d.doorLine := rfl
@[simp] theorem seenService_mode (d : Device) : d.seenService.mode = d.mode := rfl
@[simp] theorem seenService_links (d : Device) : d.seenService.links = d.links := rfl
@[simp] theorem seenService_svc (d : Device) :
    d.seenService.svc =
      { d.svc with presence := some msPresence, status := if d.svc.presence.isSome then d.svc.status else some msStatus } := rfl
@[simp] theorem seenService_alloc (d : Device) : d.seenService.alloc = d.alloc := rfl
@[simp] theorem seenService_account (d : Device) : d.seenService.account = d.account := rfl
@[simp] theorem seenService_route (d : Device) : d.seenService.route = d.route := rfl
@[simp] theorem seenService_arbiter (d : Device) : d.seenService.arbiter = d.arbiter := rfl
@[simp] theorem seenService_seq (d : Device) : d.seenService.seq = d.seq := rfl
@[simp] theorem seenService_wear (d : Device) : d.seenService.wear = d.wear := rfl
@[simp] theorem seenService_nv (d : Device) : d.seenService.nv = d.nv := rfl
@[simp] theorem seenService_params (d : Device) : d.seenService.params = d.params := rfl
@[simp] theorem seenService_ring (d : Device) : d.seenService.ring = d.ring := rfl
@[simp] theorem seenService_runClock (d : Device) : d.seenService.runClock = d.runClock := rfl
@[simp] theorem seenService_clockLeft (d : Device) : d.seenService.clockLeft = d.clockLeft := rfl
@[simp] theorem seenService_notices (d : Device) : d.seenService.notices = d.notices := rfl
@[simp] theorem seenService_tx (d : Device) : d.seenService.tx = d.tx := rfl
@[simp] theorem seenService_free (d : Device) : d.seenService.free = d.free := rfl

/-! ## placeRing -/

@[simp] theorem placeRing_inReset (d : Device) (r : RingSettings) : (d.placeRing r).inReset = d.inReset := rfl
@[simp] theorem placeRing_ignLine (d : Device) (r : RingSettings) : (d.placeRing r).ignLine = d.ignLine := rfl
@[simp] theorem placeRing_doorLine (d : Device) (r : RingSettings) : (d.placeRing r).doorLine = d.doorLine := rfl
@[simp] theorem placeRing_mode (d : Device) (r : RingSettings) : (d.placeRing r).mode = d.mode := rfl
@[simp] theorem placeRing_links (d : Device) (r : RingSettings) : (d.placeRing r).links = d.links := rfl
@[simp] theorem placeRing_svc (d : Device) (r : RingSettings) : (d.placeRing r).svc = d.svc := rfl
@[simp] theorem placeRing_alloc (d : Device) (r : RingSettings) : (d.placeRing r).alloc = d.alloc := rfl
@[simp] theorem placeRing_account (d : Device) (r : RingSettings) : (d.placeRing r).account = d.account := rfl
@[simp] theorem placeRing_route (d : Device) (r : RingSettings) : (d.placeRing r).route = d.route := rfl
@[simp] theorem placeRing_arbiter (d : Device) (r : RingSettings) : (d.placeRing r).arbiter = d.arbiter := rfl
@[simp] theorem placeRing_seq (d : Device) (r : RingSettings) : (d.placeRing r).seq = d.seq := rfl
@[simp] theorem placeRing_wear (d : Device) (r : RingSettings) : (d.placeRing r).wear = d.wear := rfl
@[simp] theorem placeRing_nv (d : Device) (r : RingSettings) : (d.placeRing r).nv = d.nv := rfl
@[simp] theorem placeRing_params (d : Device) (r : RingSettings) : (d.placeRing r).params = d.params.setRing r := rfl
@[simp] theorem placeRing_ring (d : Device) (r : RingSettings) :
    (d.placeRing r).ring = d.ring.resetSamplers (d.params.setRing r) := rfl
@[simp] theorem placeRing_runClock (d : Device) (r : RingSettings) : (d.placeRing r).runClock = d.runClock := rfl
@[simp] theorem placeRing_clockLeft (d : Device) (r : RingSettings) : (d.placeRing r).clockLeft = d.clockLeft := rfl
@[simp] theorem placeRing_notices (d : Device) (r : RingSettings) : (d.placeRing r).notices = d.notices := rfl
@[simp] theorem placeRing_tx (d : Device) (r : RingSettings) : (d.placeRing r).tx = d.tx := rfl
@[simp] theorem placeRing_free (d : Device) (r : RingSettings) : (d.placeRing r).free = d.free := rfl

/-! ## raisePulse -/

@[simp] theorem raisePulse_inReset (d : Device) (p : Port) (k : Pulse) :
    (d.raisePulse p k).inReset = d.inReset :=
  setNotices_inReset d _
@[simp] theorem raisePulse_ignLine (d : Device) (p : Port) (k : Pulse) :
    (d.raisePulse p k).ignLine = d.ignLine :=
  setNotices_ignLine d _
@[simp] theorem raisePulse_doorLine (d : Device) (p : Port) (k : Pulse) :
    (d.raisePulse p k).doorLine = d.doorLine :=
  setNotices_doorLine d _
@[simp] theorem raisePulse_mode (d : Device) (p : Port) (k : Pulse) :
    (d.raisePulse p k).mode = d.mode :=
  setNotices_mode d _
@[simp] theorem raisePulse_links (d : Device) (p : Port) (k : Pulse) :
    (d.raisePulse p k).links = d.links :=
  setNotices_links d _
@[simp] theorem raisePulse_svc (d : Device) (p : Port) (k : Pulse) :
    (d.raisePulse p k).svc = d.svc :=
  setNotices_svc d _
@[simp] theorem raisePulse_alloc (d : Device) (p : Port) (k : Pulse) :
    (d.raisePulse p k).alloc = d.alloc :=
  setNotices_alloc d _
@[simp] theorem raisePulse_account (d : Device) (p : Port) (k : Pulse) :
    (d.raisePulse p k).account = d.account :=
  setNotices_account d _
@[simp] theorem raisePulse_route (d : Device) (p : Port) (k : Pulse) :
    (d.raisePulse p k).route = d.route :=
  setNotices_route d _
@[simp] theorem raisePulse_arbiter (d : Device) (p : Port) (k : Pulse) :
    (d.raisePulse p k).arbiter = d.arbiter :=
  setNotices_arbiter d _
@[simp] theorem raisePulse_seq (d : Device) (p : Port) (k : Pulse) :
    (d.raisePulse p k).seq = d.seq :=
  setNotices_seq d _
@[simp] theorem raisePulse_wear (d : Device) (p : Port) (k : Pulse) :
    (d.raisePulse p k).wear = d.wear :=
  setNotices_wear d _
@[simp] theorem raisePulse_nv (d : Device) (p : Port) (k : Pulse) : (d.raisePulse p k).nv = d.nv := setNotices_nv d _
@[simp] theorem raisePulse_params (d : Device) (p : Port) (k : Pulse) :
    (d.raisePulse p k).params = d.params :=
  setNotices_params d _
@[simp] theorem raisePulse_ring (d : Device) (p : Port) (k : Pulse) :
    (d.raisePulse p k).ring = d.ring :=
  setNotices_ring d _
@[simp] theorem raisePulse_runClock (d : Device) (p : Port) (k : Pulse) :
    (d.raisePulse p k).runClock = d.runClock :=
  setNotices_runClock d _
@[simp] theorem raisePulse_clockLeft (d : Device) (p : Port) (k : Pulse) :
    (d.raisePulse p k).clockLeft = d.clockLeft :=
  setNotices_clockLeft d _
@[simp] theorem raisePulse_notices (d : Device) (p : Port) (k : Pulse) :
    (d.raisePulse p k).notices = d.notices.set p ((d.notices.get p).addPulse k) :=
  setNotices_notices d _
@[simp] theorem raisePulse_tx (d : Device) (p : Port) (k : Pulse) : (d.raisePulse p k).tx = d.tx := setNotices_tx d _
@[simp] theorem raisePulse_free (d : Device) (p : Port) (k : Pulse) :
    (d.raisePulse p k).free = d.free :=
  setNotices_free d _

/-! ## raiseHeld -/

@[simp] theorem raiseHeld_inReset (d : Device) (p : Port) (k : HeldKind) (b : Byte) :
    (d.raiseHeld p k b).inReset = d.inReset :=
  setNotices_inReset d _
@[simp] theorem raiseHeld_ignLine (d : Device) (p : Port) (k : HeldKind) (b : Byte) :
    (d.raiseHeld p k b).ignLine = d.ignLine :=
  setNotices_ignLine d _
@[simp] theorem raiseHeld_doorLine (d : Device) (p : Port) (k : HeldKind) (b : Byte) :
    (d.raiseHeld p k b).doorLine = d.doorLine :=
  setNotices_doorLine d _
@[simp] theorem raiseHeld_mode (d : Device) (p : Port) (k : HeldKind) (b : Byte) :
    (d.raiseHeld p k b).mode = d.mode :=
  setNotices_mode d _
@[simp] theorem raiseHeld_links (d : Device) (p : Port) (k : HeldKind) (b : Byte) :
    (d.raiseHeld p k b).links = d.links :=
  setNotices_links d _
@[simp] theorem raiseHeld_svc (d : Device) (p : Port) (k : HeldKind) (b : Byte) :
    (d.raiseHeld p k b).svc = d.svc :=
  setNotices_svc d _
@[simp] theorem raiseHeld_alloc (d : Device) (p : Port) (k : HeldKind) (b : Byte) :
    (d.raiseHeld p k b).alloc = d.alloc :=
  setNotices_alloc d _
@[simp] theorem raiseHeld_account (d : Device) (p : Port) (k : HeldKind) (b : Byte) :
    (d.raiseHeld p k b).account = d.account :=
  setNotices_account d _
@[simp] theorem raiseHeld_route (d : Device) (p : Port) (k : HeldKind) (b : Byte) :
    (d.raiseHeld p k b).route = d.route :=
  setNotices_route d _
@[simp] theorem raiseHeld_arbiter (d : Device) (p : Port) (k : HeldKind) (b : Byte) :
    (d.raiseHeld p k b).arbiter = d.arbiter :=
  setNotices_arbiter d _
@[simp] theorem raiseHeld_seq (d : Device) (p : Port) (k : HeldKind) (b : Byte) :
    (d.raiseHeld p k b).seq = d.seq :=
  setNotices_seq d _
@[simp] theorem raiseHeld_wear (d : Device) (p : Port) (k : HeldKind) (b : Byte) :
    (d.raiseHeld p k b).wear = d.wear :=
  setNotices_wear d _
@[simp] theorem raiseHeld_nv (d : Device) (p : Port) (k : HeldKind) (b : Byte) :
    (d.raiseHeld p k b).nv = d.nv :=
  setNotices_nv d _
@[simp] theorem raiseHeld_params (d : Device) (p : Port) (k : HeldKind) (b : Byte) :
    (d.raiseHeld p k b).params = d.params :=
  setNotices_params d _
@[simp] theorem raiseHeld_ring (d : Device) (p : Port) (k : HeldKind) (b : Byte) :
    (d.raiseHeld p k b).ring = d.ring :=
  setNotices_ring d _
@[simp] theorem raiseHeld_runClock (d : Device) (p : Port) (k : HeldKind) (b : Byte) :
    (d.raiseHeld p k b).runClock = d.runClock :=
  setNotices_runClock d _
@[simp] theorem raiseHeld_clockLeft (d : Device) (p : Port) (k : HeldKind) (b : Byte) :
    (d.raiseHeld p k b).clockLeft = d.clockLeft :=
  setNotices_clockLeft d _
@[simp] theorem raiseHeld_notices (d : Device) (p : Port) (k : HeldKind) (b : Byte) :
    (d.raiseHeld p k b).notices = d.notices.set p ((d.notices.get p).addHeld k b) :=
  setNotices_notices d _
@[simp] theorem raiseHeld_tx (d : Device) (p : Port) (k : HeldKind) (b : Byte) :
    (d.raiseHeld p k b).tx = d.tx :=
  setNotices_tx d _
@[simp] theorem raiseHeld_free (d : Device) (p : Port) (k : HeldKind) (b : Byte) :
    (d.raiseHeld p k b).free = d.free :=
  setNotices_free d _

/-! ## raiseModeChanged -/

@[simp] theorem raiseModeChanged_inReset (d : Device) :
    d.raiseModeChanged.inReset = d.inReset :=
  setNotices_inReset d _
@[simp] theorem raiseModeChanged_ignLine (d : Device) :
    d.raiseModeChanged.ignLine = d.ignLine :=
  setNotices_ignLine d _
@[simp] theorem raiseModeChanged_doorLine (d : Device) :
    d.raiseModeChanged.doorLine = d.doorLine :=
  setNotices_doorLine d _
@[simp] theorem raiseModeChanged_mode (d : Device) : d.raiseModeChanged.mode = d.mode := setNotices_mode d _
@[simp] theorem raiseModeChanged_links (d : Device) : d.raiseModeChanged.links = d.links := setNotices_links d _
@[simp] theorem raiseModeChanged_svc (d : Device) : d.raiseModeChanged.svc = d.svc := setNotices_svc d _
@[simp] theorem raiseModeChanged_alloc (d : Device) : d.raiseModeChanged.alloc = d.alloc := setNotices_alloc d _
@[simp] theorem raiseModeChanged_account (d : Device) :
    d.raiseModeChanged.account = d.account :=
  setNotices_account d _
@[simp] theorem raiseModeChanged_route (d : Device) : d.raiseModeChanged.route = d.route := setNotices_route d _
@[simp] theorem raiseModeChanged_arbiter (d : Device) :
    d.raiseModeChanged.arbiter = d.arbiter :=
  setNotices_arbiter d _
@[simp] theorem raiseModeChanged_seq (d : Device) : d.raiseModeChanged.seq = d.seq := setNotices_seq d _
@[simp] theorem raiseModeChanged_wear (d : Device) : d.raiseModeChanged.wear = d.wear := setNotices_wear d _
@[simp] theorem raiseModeChanged_nv (d : Device) : d.raiseModeChanged.nv = d.nv := setNotices_nv d _
@[simp] theorem raiseModeChanged_params (d : Device) : d.raiseModeChanged.params = d.params := setNotices_params d _
@[simp] theorem raiseModeChanged_ring (d : Device) : d.raiseModeChanged.ring = d.ring := setNotices_ring d _
@[simp] theorem raiseModeChanged_runClock (d : Device) :
    d.raiseModeChanged.runClock = d.runClock :=
  setNotices_runClock d _
@[simp] theorem raiseModeChanged_clockLeft (d : Device) :
    d.raiseModeChanged.clockLeft = d.clockLeft :=
  setNotices_clockLeft d _
@[simp] theorem raiseModeChanged_notices (d : Device) :
    d.raiseModeChanged.notices = d.notices.mapMembers fun n => n.addPulse .modeChanged :=
  setNotices_notices d _
@[simp] theorem raiseModeChanged_tx (d : Device) : d.raiseModeChanged.tx = d.tx := setNotices_tx d _
@[simp] theorem raiseModeChanged_free (d : Device) : d.raiseModeChanged.free = d.free := setNotices_free d _

/-! ## dropHeld -/

@[simp] theorem dropHeld_inReset (d : Device) (p : Port) (code : Nat) :
    (d.dropHeld p code).inReset = d.inReset :=
  setNotices_inReset d _
@[simp] theorem dropHeld_ignLine (d : Device) (p : Port) (code : Nat) :
    (d.dropHeld p code).ignLine = d.ignLine :=
  setNotices_ignLine d _
@[simp] theorem dropHeld_doorLine (d : Device) (p : Port) (code : Nat) :
    (d.dropHeld p code).doorLine = d.doorLine :=
  setNotices_doorLine d _
@[simp] theorem dropHeld_mode (d : Device) (p : Port) (code : Nat) :
    (d.dropHeld p code).mode = d.mode :=
  setNotices_mode d _
@[simp] theorem dropHeld_links (d : Device) (p : Port) (code : Nat) :
    (d.dropHeld p code).links = d.links :=
  setNotices_links d _
@[simp] theorem dropHeld_svc (d : Device) (p : Port) (code : Nat) :
    (d.dropHeld p code).svc = d.svc :=
  setNotices_svc d _
@[simp] theorem dropHeld_alloc (d : Device) (p : Port) (code : Nat) :
    (d.dropHeld p code).alloc = d.alloc :=
  setNotices_alloc d _
@[simp] theorem dropHeld_account (d : Device) (p : Port) (code : Nat) :
    (d.dropHeld p code).account = d.account :=
  setNotices_account d _
@[simp] theorem dropHeld_route (d : Device) (p : Port) (code : Nat) :
    (d.dropHeld p code).route = d.route :=
  setNotices_route d _
@[simp] theorem dropHeld_arbiter (d : Device) (p : Port) (code : Nat) :
    (d.dropHeld p code).arbiter = d.arbiter :=
  setNotices_arbiter d _
@[simp] theorem dropHeld_seq (d : Device) (p : Port) (code : Nat) :
    (d.dropHeld p code).seq = d.seq :=
  setNotices_seq d _
@[simp] theorem dropHeld_wear (d : Device) (p : Port) (code : Nat) :
    (d.dropHeld p code).wear = d.wear :=
  setNotices_wear d _
@[simp] theorem dropHeld_nv (d : Device) (p : Port) (code : Nat) : (d.dropHeld p code).nv = d.nv := setNotices_nv d _
@[simp] theorem dropHeld_params (d : Device) (p : Port) (code : Nat) :
    (d.dropHeld p code).params = d.params :=
  setNotices_params d _
@[simp] theorem dropHeld_ring (d : Device) (p : Port) (code : Nat) :
    (d.dropHeld p code).ring = d.ring :=
  setNotices_ring d _
@[simp] theorem dropHeld_runClock (d : Device) (p : Port) (code : Nat) :
    (d.dropHeld p code).runClock = d.runClock :=
  setNotices_runClock d _
@[simp] theorem dropHeld_clockLeft (d : Device) (p : Port) (code : Nat) :
    (d.dropHeld p code).clockLeft = d.clockLeft :=
  setNotices_clockLeft d _
@[simp] theorem dropHeld_notices (d : Device) (p : Port) (code : Nat) :
    (d.dropHeld p code).notices = d.notices.set p ((d.notices.get p).dropHeld code) :=
  setNotices_notices d _
@[simp] theorem dropHeld_tx (d : Device) (p : Port) (code : Nat) : (d.dropHeld p code).tx = d.tx := setNotices_tx d _
@[simp] theorem dropHeld_free (d : Device) (p : Port) (code : Nat) :
    (d.dropHeld p code).free = d.free :=
  setNotices_free d _

/-! ## recomputeReserve -/

@[simp] theorem recomputeReserve_inReset (d : Device) : d.recomputeReserve.inReset = d.inReset := setRoute_inReset d _
@[simp] theorem recomputeReserve_ignLine (d : Device) : d.recomputeReserve.ignLine = d.ignLine := setRoute_ignLine d _
@[simp] theorem recomputeReserve_doorLine (d : Device) :
    d.recomputeReserve.doorLine = d.doorLine :=
  setRoute_doorLine d _
@[simp] theorem recomputeReserve_mode (d : Device) : d.recomputeReserve.mode = d.mode := setRoute_mode d _
@[simp] theorem recomputeReserve_links (d : Device) : d.recomputeReserve.links = d.links := setRoute_links d _
@[simp] theorem recomputeReserve_svc (d : Device) : d.recomputeReserve.svc = d.svc := setRoute_svc d _
@[simp] theorem recomputeReserve_alloc (d : Device) : d.recomputeReserve.alloc = d.alloc := setRoute_alloc d _
@[simp] theorem recomputeReserve_account (d : Device) : d.recomputeReserve.account = d.account := setRoute_account d _
@[simp] theorem recomputeReserve_route (d : Device) :
    d.recomputeReserve.route = { d.route with eRes := reserve d.params d.dRouteM d.route.zones } :=
  setRoute_route d _
@[simp] theorem recomputeReserve_arbiter (d : Device) : d.recomputeReserve.arbiter = d.arbiter := setRoute_arbiter d _
@[simp] theorem recomputeReserve_seq (d : Device) : d.recomputeReserve.seq = d.seq := setRoute_seq d _
@[simp] theorem recomputeReserve_wear (d : Device) : d.recomputeReserve.wear = d.wear := setRoute_wear d _
@[simp] theorem recomputeReserve_nv (d : Device) : d.recomputeReserve.nv = d.nv := setRoute_nv d _
@[simp] theorem recomputeReserve_params (d : Device) : d.recomputeReserve.params = d.params := setRoute_params d _
@[simp] theorem recomputeReserve_ring (d : Device) : d.recomputeReserve.ring = d.ring := setRoute_ring d _
@[simp] theorem recomputeReserve_runClock (d : Device) :
    d.recomputeReserve.runClock = d.runClock :=
  setRoute_runClock d _
@[simp] theorem recomputeReserve_clockLeft (d : Device) :
    d.recomputeReserve.clockLeft = d.clockLeft :=
  setRoute_clockLeft d _
@[simp] theorem recomputeReserve_notices (d : Device) : d.recomputeReserve.notices = d.notices := setRoute_notices d _
@[simp] theorem recomputeReserve_tx (d : Device) : d.recomputeReserve.tx = d.tx := setRoute_tx d _
@[simp] theorem recomputeReserve_free (d : Device) : d.recomputeReserve.free = d.free := setRoute_free d _

/-! ## The queue of commands and the reading of one link, queue or claim -/

@[simp] theorem setLink_usable (d : Device) (m : Member) (l : Link) (j : Member) :
    (d.setLink m l).usable j = (((d.links.set m l).get j).state).usable := rfl

end Sys2Proof.Machine
end

