-- ==== Sys2Proof/Laws/Frames.lean ====
section
/-! SUPPORT. What the shared operations leave: one lemma per operation and field. Offering a record, answering, feeding
a wear item and starting a write touch their own blocks alone. -/

namespace Sys2Proof.Machine

/-! ## evalDrain -/

@[simp] theorem evalDrain_inReset (d : Device) : (d.evalDrain).inReset = d.inReset := by
  simp [Device.evalDrain]
@[simp] theorem evalDrain_ignLine (d : Device) : (d.evalDrain).ignLine = d.ignLine := by
  simp [Device.evalDrain]
@[simp] theorem evalDrain_doorLine (d : Device) : (d.evalDrain).doorLine = d.doorLine := by
  simp [Device.evalDrain]
@[simp] theorem evalDrain_mode (d : Device) : (d.evalDrain).mode = d.mode := by
  simp [Device.evalDrain]
@[simp] theorem evalDrain_links (d : Device) : (d.evalDrain).links = d.links := by
  simp [Device.evalDrain]
@[simp] theorem evalDrain_alloc (d : Device) : (d.evalDrain).alloc = d.alloc := by
  simp [Device.evalDrain]
@[simp] theorem evalDrain_account (d : Device) : (d.evalDrain).account = d.account := by
  simp [Device.evalDrain]
@[simp] theorem evalDrain_route (d : Device) : (d.evalDrain).route = d.route := by
  simp [Device.evalDrain]
@[simp] theorem evalDrain_arbiter (d : Device) : (d.evalDrain).arbiter = d.arbiter := by
  simp [Device.evalDrain]
@[simp] theorem evalDrain_seq (d : Device) : (d.evalDrain).seq = d.seq := by
  simp [Device.evalDrain]
@[simp] theorem evalDrain_wear (d : Device) : (d.evalDrain).wear = d.wear := by
  simp [Device.evalDrain]
@[simp] theorem evalDrain_nv (d : Device) : (d.evalDrain).nv = d.nv := by
  simp [Device.evalDrain]
@[simp] theorem evalDrain_params (d : Device) : (d.evalDrain).params = d.params := by
  simp [Device.evalDrain]
@[simp] theorem evalDrain_runClock (d : Device) : (d.evalDrain).runClock = d.runClock := by
  simp [Device.evalDrain]
@[simp] theorem evalDrain_clockLeft (d : Device) : (d.evalDrain).clockLeft = d.clockLeft := by
  simp [Device.evalDrain]
@[simp] theorem evalDrain_notices (d : Device) : (d.evalDrain).notices = d.notices := by
  simp [Device.evalDrain]
@[simp] theorem evalDrain_tx_veh (d : Device) : (d.evalDrain).tx.veh = d.tx.veh := by
  simp [Device.evalDrain]
@[simp] theorem evalDrain_tx_eng (d : Device) : (d.evalDrain).tx.eng = d.tx.eng := by
  simp [Device.evalDrain]
@[simp] theorem evalDrain_tx_bat (d : Device) : (d.evalDrain).tx.bat = d.tx.bat := by
  simp [Device.evalDrain]
@[simp] theorem evalDrain_tx_trc (d : Device) : (d.evalDrain).tx.trc = d.tx.trc := by
  simp [Device.evalDrain]
@[simp] theorem evalDrain_tx_brk (d : Device) : (d.evalDrain).tx.brk = d.tx.brk := by
  simp [Device.evalDrain]
@[simp] theorem evalDrain_svc_presence (d : Device) : (d.evalDrain).svc.presence = d.svc.presence := by
  simp [Device.evalDrain]
@[simp] theorem evalDrain_svc_status (d : Device) : (d.evalDrain).svc.status = d.svc.status := by
  simp [Device.evalDrain]

/-! ## store -/

@[simp] theorem store_inReset (d : Device) (mk : Word16 → Record) : (d.store mk).inReset = d.inReset := by
  unfold Device.store; dsimp only; split <;> simp
@[simp] theorem store_ignLine (d : Device) (mk : Word16 → Record) : (d.store mk).ignLine = d.ignLine := by
  unfold Device.store; dsimp only; split <;> simp
@[simp] theorem store_doorLine (d : Device) (mk : Word16 → Record) : (d.store mk).doorLine = d.doorLine := by
  unfold Device.store; dsimp only; split <;> simp
@[simp] theorem store_mode (d : Device) (mk : Word16 → Record) : (d.store mk).mode = d.mode := by
  unfold Device.store; dsimp only; split <;> simp
@[simp] theorem store_links (d : Device) (mk : Word16 → Record) : (d.store mk).links = d.links := by
  unfold Device.store; dsimp only; split <;> simp
@[simp] theorem store_alloc (d : Device) (mk : Word16 → Record) : (d.store mk).alloc = d.alloc := by
  unfold Device.store; dsimp only; split <;> simp
@[simp] theorem store_account (d : Device) (mk : Word16 → Record) : (d.store mk).account = d.account := by
  unfold Device.store; dsimp only; split <;> simp
@[simp] theorem store_route (d : Device) (mk : Word16 → Record) : (d.store mk).route = d.route := by
  unfold Device.store; dsimp only; split <;> simp
@[simp] theorem store_arbiter (d : Device) (mk : Word16 → Record) : (d.store mk).arbiter = d.arbiter := by
  unfold Device.store; dsimp only; split <;> simp
@[simp] theorem store_seq (d : Device) (mk : Word16 → Record) : (d.store mk).seq = d.seq := by
  unfold Device.store; dsimp only; split <;> simp
@[simp] theorem store_wear (d : Device) (mk : Word16 → Record) : (d.store mk).wear = d.wear := by
  unfold Device.store; dsimp only; split <;> simp
@[simp] theorem store_nv (d : Device) (mk : Word16 → Record) : (d.store mk).nv = d.nv := by
  unfold Device.store; dsimp only; split <;> simp
@[simp] theorem store_params (d : Device) (mk : Word16 → Record) : (d.store mk).params = d.params := by
  unfold Device.store; dsimp only; split <;> simp
@[simp] theorem store_runClock (d : Device) (mk : Word16 → Record) : (d.store mk).runClock = d.runClock := by
  unfold Device.store; dsimp only; split <;> simp
@[simp] theorem store_clockLeft (d : Device) (mk : Word16 → Record) : (d.store mk).clockLeft = d.clockLeft := by
  unfold Device.store; dsimp only; split <;> simp
@[simp] theorem store_tx_veh (d : Device) (mk : Word16 → Record) : (d.store mk).tx.veh = d.tx.veh := by
  unfold Device.store; dsimp only; split <;> simp
@[simp] theorem store_tx_eng (d : Device) (mk : Word16 → Record) : (d.store mk).tx.eng = d.tx.eng := by
  unfold Device.store; dsimp only; split <;> simp
@[simp] theorem store_tx_bat (d : Device) (mk : Word16 → Record) : (d.store mk).tx.bat = d.tx.bat := by
  unfold Device.store; dsimp only; split <;> simp
@[simp] theorem store_tx_trc (d : Device) (mk : Word16 → Record) : (d.store mk).tx.trc = d.tx.trc := by
  unfold Device.store; dsimp only; split <;> simp
@[simp] theorem store_tx_brk (d : Device) (mk : Word16 → Record) : (d.store mk).tx.brk = d.tx.brk := by
  unfold Device.store; dsimp only; split <;> simp
@[simp] theorem store_svc_presence (d : Device) (mk : Word16 → Record) :
    (d.store mk).svc.presence = d.svc.presence := by
  unfold Device.store; dsimp only; split <;> simp
@[simp] theorem store_svc_status (d : Device) (mk : Word16 → Record) : (d.store mk).svc.status = d.svc.status := by
  unfold Device.store; dsimp only; split <;> simp
@[simp] theorem store_notices_eng (d : Device) (mk : Word16 → Record) :
    (d.store mk).notices.eng = d.notices.eng := by
  unfold Device.store; dsimp only; split <;> simp [PerPort.set]
@[simp] theorem store_notices_bat (d : Device) (mk : Word16 → Record) :
    (d.store mk).notices.bat = d.notices.bat := by
  unfold Device.store; dsimp only; split <;> simp [PerPort.set]
@[simp] theorem store_notices_trc (d : Device) (mk : Word16 → Record) :
    (d.store mk).notices.trc = d.notices.trc := by
  unfold Device.store; dsimp only; split <;> simp [PerPort.set]
@[simp] theorem store_notices_brk (d : Device) (mk : Word16 → Record) :
    (d.store mk).notices.brk = d.notices.brk := by
  unfold Device.store; dsimp only; split <;> simp [PerPort.set]

/-! ## offerAt -/

@[simp] theorem offerAt_inReset (d : Device) (c : Word32) (n : Nat) (x : Occurrence) :
    (d.offerAt c n x).inReset = d.inReset := by
  unfold Device.offerAt; dsimp only; split <;> simp
@[simp] theorem offerAt_ignLine (d : Device) (c : Word32) (n : Nat) (x : Occurrence) :
    (d.offerAt c n x).ignLine = d.ignLine := by
  unfold Device.offerAt; dsimp only; split <;> simp
@[simp] theorem offerAt_doorLine (d : Device) (c : Word32) (n : Nat) (x : Occurrence) :
    (d.offerAt c n x).doorLine = d.doorLine := by
  unfold Device.offerAt; dsimp only; split <;> simp
@[simp] theorem offerAt_mode (d : Device) (c : Word32) (n : Nat) (x : Occurrence) :
    (d.offerAt c n x).mode = d.mode := by
  unfold Device.offerAt; dsimp only; split <;> simp
@[simp] theorem offerAt_links (d : Device) (c : Word32) (n : Nat) (x : Occurrence) :
    (d.offerAt c n x).links = d.links := by
  unfold Device.offerAt; dsimp only; split <;> simp
@[simp] theorem offerAt_alloc (d : Device) (c : Word32) (n : Nat) (x : Occurrence) :
    (d.offerAt c n x).alloc = d.alloc := by
  unfold Device.offerAt; dsimp only; split <;> simp
@[simp] theorem offerAt_account (d : Device) (c : Word32) (n : Nat) (x : Occurrence) :
    (d.offerAt c n x).account = d.account := by
  unfold Device.offerAt; dsimp only; split <;> simp
@[simp] theorem offerAt_route (d : Device) (c : Word32) (n : Nat) (x : Occurrence) :
    (d.offerAt c n x).route = d.route := by
  unfold Device.offerAt; dsimp only; split <;> simp
@[simp] theorem offerAt_arbiter (d : Device) (c : Word32) (n : Nat) (x : Occurrence) :
    (d.offerAt c n x).arbiter = d.arbiter := by
  unfold Device.offerAt; dsimp only; split <;> simp
@[simp] theorem offerAt_seq (d : Device) (c : Word32) (n : Nat) (x : Occurrence) :
    (d.offerAt c n x).seq = d.seq := by
  unfold Device.offerAt; dsimp only; split <;> simp
@[simp] theorem offerAt_wear (d : Device) (c : Word32) (n : Nat) (x : Occurrence) :
    (d.offerAt c n x).wear = d.wear := by
  unfold Device.offerAt; dsimp only; split <;> simp
@[simp] theorem offerAt_nv (d : Device) (c : Word32) (n : Nat) (x : Occurrence) : (d.offerAt c n x).nv = d.nv := by
  unfold Device.offerAt; dsimp only; split <;> simp
@[simp] theorem offerAt_params (d : Device) (c : Word32) (n : Nat) (x : Occurrence) :
    (d.offerAt c n x).params = d.params := by
  unfold Device.offerAt; dsimp only; split <;> simp
@[simp] theorem offerAt_runClock (d : Device) (c : Word32) (n : Nat) (x : Occurrence) :
    (d.offerAt c n x).runClock = d.runClock := by
  unfold Device.offerAt; dsimp only; split <;> simp
@[simp] theorem offerAt_clockLeft (d : Device) (c : Word32) (n : Nat) (x : Occurrence) :
    (d.offerAt c n x).clockLeft = d.clockLeft := by
  unfold Device.offerAt; dsimp only; split <;> simp
@[simp] theorem offerAt_tx_veh (d : Device) (c : Word32) (n : Nat) (x : Occurrence) :
    (d.offerAt c n x).tx.veh = d.tx.veh := by
  unfold Device.offerAt; dsimp only; split <;> simp
@[simp] theorem offerAt_tx_eng (d : Device) (c : Word32) (n : Nat) (x : Occurrence) :
    (d.offerAt c n x).tx.eng = d.tx.eng := by
  unfold Device.offerAt; dsimp only; split <;> simp
@[simp] theorem offerAt_tx_bat (d : Device) (c : Word32) (n : Nat) (x : Occurrence) :
    (d.offerAt c n x).tx.bat = d.tx.bat := by
  unfold Device.offerAt; dsimp only; split <;> simp
@[simp] theorem offerAt_tx_trc (d : Device) (c : Word32) (n : Nat) (x : Occurrence) :
    (d.offerAt c n x).tx.trc = d.tx.trc := by
  unfold Device.offerAt; dsimp only; split <;> simp
@[simp] theorem offerAt_tx_brk (d : Device) (c : Word32) (n : Nat) (x : Occurrence) :
    (d.offerAt c n x).tx.brk = d.tx.brk := by
  unfold Device.offerAt; dsimp only; split <;> simp
@[simp] theorem offerAt_svc_presence (d : Device) (c : Word32) (n : Nat) (x : Occurrence) :
    (d.offerAt c n x).svc.presence = d.svc.presence := by
  unfold Device.offerAt; dsimp only; split <;> simp
@[simp] theorem offerAt_svc_status (d : Device) (c : Word32) (n : Nat) (x : Occurrence) :
    (d.offerAt c n x).svc.status = d.svc.status := by
  unfold Device.offerAt; dsimp only; split <;> simp
@[simp] theorem offerAt_notices_eng (d : Device) (c : Word32) (n : Nat) (x : Occurrence) :
    (d.offerAt c n x).notices.eng = d.notices.eng := by
  unfold Device.offerAt; dsimp only; split <;> simp
@[simp] theorem offerAt_notices_bat (d : Device) (c : Word32) (n : Nat) (x : Occurrence) :
    (d.offerAt c n x).notices.bat = d.notices.bat := by
  unfold Device.offerAt; dsimp only; split <;> simp
@[simp] theorem offerAt_notices_trc (d : Device) (c : Word32) (n : Nat) (x : Occurrence) :
    (d.offerAt c n x).notices.trc = d.notices.trc := by
  unfold Device.offerAt; dsimp only; split <;> simp
@[simp] theorem offerAt_notices_brk (d : Device) (c : Word32) (n : Nat) (x : Occurrence) :
    (d.offerAt c n x).notices.brk = d.notices.brk := by
  unfold Device.offerAt; dsimp only; split <;> simp

/-! ## offer -/

@[simp] theorem offer_inReset (d : Device) (x : Occurrence) : (d.offer x).inReset = d.inReset := by
  simp [Device.offer]
@[simp] theorem offer_ignLine (d : Device) (x : Occurrence) : (d.offer x).ignLine = d.ignLine := by
  simp [Device.offer]
@[simp] theorem offer_doorLine (d : Device) (x : Occurrence) : (d.offer x).doorLine = d.doorLine := by
  simp [Device.offer]
@[simp] theorem offer_mode (d : Device) (x : Occurrence) : (d.offer x).mode = d.mode := by
  simp [Device.offer]
@[simp] theorem offer_links (d : Device) (x : Occurrence) : (d.offer x).links = d.links := by
  simp [Device.offer]
@[simp] theorem offer_alloc (d : Device) (x : Occurrence) : (d.offer x).alloc = d.alloc := by
  simp [Device.offer]
@[simp] theorem offer_account (d : Device) (x : Occurrence) : (d.offer x).account = d.account := by
  simp [Device.offer]
@[simp] theorem offer_route (d : Device) (x : Occurrence) : (d.offer x).route = d.route := by
  simp [Device.offer]
@[simp] theorem offer_arbiter (d : Device) (x : Occurrence) : (d.offer x).arbiter = d.arbiter := by
  simp [Device.offer]
@[simp] theorem offer_seq (d : Device) (x : Occurrence) : (d.offer x).seq = d.seq := by
  simp [Device.offer]
@[simp] theorem offer_wear (d : Device) (x : Occurrence) : (d.offer x).wear = d.wear := by
  simp [Device.offer]
@[simp] theorem offer_nv (d : Device) (x : Occurrence) : (d.offer x).nv = d.nv := by
  simp [Device.offer]
@[simp] theorem offer_params (d : Device) (x : Occurrence) : (d.offer x).params = d.params := by
  simp [Device.offer]
@[simp] theorem offer_runClock (d : Device) (x : Occurrence) : (d.offer x).runClock = d.runClock := by
  simp [Device.offer]
@[simp] theorem offer_clockLeft (d : Device) (x : Occurrence) : (d.offer x).clockLeft = d.clockLeft := by
  simp [Device.offer]
@[simp] theorem offer_tx_veh (d : Device) (x : Occurrence) : (d.offer x).tx.veh = d.tx.veh := by
  simp [Device.offer]
@[simp] theorem offer_tx_eng (d : Device) (x : Occurrence) : (d.offer x).tx.eng = d.tx.eng := by
  simp [Device.offer]
@[simp] theorem offer_tx_bat (d : Device) (x : Occurrence) : (d.offer x).tx.bat = d.tx.bat := by
  simp [Device.offer]
@[simp] theorem offer_tx_trc (d : Device) (x : Occurrence) : (d.offer x).tx.trc = d.tx.trc := by
  simp [Device.offer]
@[simp] theorem offer_tx_brk (d : Device) (x : Occurrence) : (d.offer x).tx.brk = d.tx.brk := by
  simp [Device.offer]
@[simp] theorem offer_svc_presence (d : Device) (x : Occurrence) : (d.offer x).svc.presence = d.svc.presence := by
  simp [Device.offer]
@[simp] theorem offer_svc_status (d : Device) (x : Occurrence) : (d.offer x).svc.status = d.svc.status := by
  simp [Device.offer]
@[simp] theorem offer_notices_eng (d : Device) (x : Occurrence) : (d.offer x).notices.eng = d.notices.eng := by
  simp [Device.offer]
@[simp] theorem offer_notices_bat (d : Device) (x : Occurrence) : (d.offer x).notices.bat = d.notices.bat := by
  simp [Device.offer]
@[simp] theorem offer_notices_trc (d : Device) (x : Occurrence) : (d.offer x).notices.trc = d.notices.trc := by
  simp [Device.offer]
@[simp] theorem offer_notices_brk (d : Device) (x : Occurrence) : (d.offer x).notices.brk = d.notices.brk := by
  simp [Device.offer]

/-! ## offerAll -/

@[simp] theorem offerAll_inReset (d : Device) (xs : List Occurrence) : (d.offerAll xs).inReset = d.inReset := by
  induction xs generalizing d with
  | nil => rfl
  | cons x xs ih => exact (ih (d.offer x)).trans (offer_inReset d x)
@[simp] theorem offerAll_ignLine (d : Device) (xs : List Occurrence) : (d.offerAll xs).ignLine = d.ignLine := by
  induction xs generalizing d with
  | nil => rfl
  | cons x xs ih => exact (ih (d.offer x)).trans (offer_ignLine d x)
@[simp] theorem offerAll_doorLine (d : Device) (xs : List Occurrence) : (d.offerAll xs).doorLine = d.doorLine := by
  induction xs generalizing d with
  | nil => rfl
  | cons x xs ih => exact (ih (d.offer x)).trans (offer_doorLine d x)
@[simp] theorem offerAll_mode (d : Device) (xs : List Occurrence) : (d.offerAll xs).mode = d.mode := by
  induction xs generalizing d with
  | nil => rfl
  | cons x xs ih => exact (ih (d.offer x)).trans (offer_mode d x)
@[simp] theorem offerAll_links (d : Device) (xs : List Occurrence) : (d.offerAll xs).links = d.links := by
  induction xs generalizing d with
  | nil => rfl
  | cons x xs ih => exact (ih (d.offer x)).trans (offer_links d x)
@[simp] theorem offerAll_alloc (d : Device) (xs : List Occurrence) : (d.offerAll xs).alloc = d.alloc := by
  induction xs generalizing d with
  | nil => rfl
  | cons x xs ih => exact (ih (d.offer x)).trans (offer_alloc d x)
@[simp] theorem offerAll_account (d : Device) (xs : List Occurrence) : (d.offerAll xs).account = d.account := by
  induction xs generalizing d with
  | nil => rfl
  | cons x xs ih => exact (ih (d.offer x)).trans (offer_account d x)
@[simp] theorem offerAll_route (d : Device) (xs : List Occurrence) : (d.offerAll xs).route = d.route := by
  induction xs generalizing d with
  | nil => rfl
  | cons x xs ih => exact (ih (d.offer x)).trans (offer_route d x)
@[simp] theorem offerAll_arbiter (d : Device) (xs : List Occurrence) : (d.offerAll xs).arbiter = d.arbiter := by
  induction xs generalizing d with
  | nil => rfl
  | cons x xs ih => exact (ih (d.offer x)).trans (offer_arbiter d x)
@[simp] theorem offerAll_seq (d : Device) (xs : List Occurrence) : (d.offerAll xs).seq = d.seq := by
  induction xs generalizing d with
  | nil => rfl
  | cons x xs ih => exact (ih (d.offer x)).trans (offer_seq d x)
@[simp] theorem offerAll_wear (d : Device) (xs : List Occurrence) : (d.offerAll xs).wear = d.wear := by
  induction xs generalizing d with
  | nil => rfl
  | cons x xs ih => exact (ih (d.offer x)).trans (offer_wear d x)
@[simp] theorem offerAll_nv (d : Device) (xs : List Occurrence) : (d.offerAll xs).nv = d.nv := by
  induction xs generalizing d with
  | nil => rfl
  | cons x xs ih => exact (ih (d.offer x)).trans (offer_nv d x)
@[simp] theorem offerAll_params (d : Device) (xs : List Occurrence) : (d.offerAll xs).params = d.params := by
  induction xs generalizing d with
  | nil => rfl
  | cons x xs ih => exact (ih (d.offer x)).trans (offer_params d x)
@[simp] theorem offerAll_runClock (d : Device) (xs : List Occurrence) : (d.offerAll xs).runClock = d.runClock := by
  induction xs generalizing d with
  | nil => rfl
  | cons x xs ih => exact (ih (d.offer x)).trans (offer_runClock d x)
@[simp] theorem offerAll_clockLeft (d : Device) (xs : List Occurrence) : (d.offerAll xs).clockLeft = d.clockLeft := by
  induction xs generalizing d with
  | nil => rfl
  | cons x xs ih => exact (ih (d.offer x)).trans (offer_clockLeft d x)
@[simp] theorem offerAll_tx_veh (d : Device) (xs : List Occurrence) :
    (d.offerAll xs).tx.veh = d.tx.veh := by
  induction xs generalizing d with
  | nil => rfl
  | cons x xs ih => exact (ih (d.offer x)).trans (offer_tx_veh d x)
@[simp] theorem offerAll_tx_eng (d : Device) (xs : List Occurrence) :
    (d.offerAll xs).tx.eng = d.tx.eng := by
  induction xs generalizing d with
  | nil => rfl
  | cons x xs ih => exact (ih (d.offer x)).trans (offer_tx_eng d x)
@[simp] theorem offerAll_tx_bat (d : Device) (xs : List Occurrence) :
    (d.offerAll xs).tx.bat = d.tx.bat := by
  induction xs generalizing d with
  | nil => rfl
  | cons x xs ih => exact (ih (d.offer x)).trans (offer_tx_bat d x)
@[simp] theorem offerAll_tx_trc (d : Device) (xs : List Occurrence) :
    (d.offerAll xs).tx.trc = d.tx.trc := by
  induction xs generalizing d with
  | nil => rfl
  | cons x xs ih => exact (ih (d.offer x)).trans (offer_tx_trc d x)
@[simp] theorem offerAll_tx_brk (d : Device) (xs : List Occurrence) :
    (d.offerAll xs).tx.brk = d.tx.brk := by
  induction xs generalizing d with
  | nil => rfl
  | cons x xs ih => exact (ih (d.offer x)).trans (offer_tx_brk d x)
@[simp] theorem offerAll_svc_presence (d : Device) (xs : List Occurrence) :
    (d.offerAll xs).svc.presence = d.svc.presence := by
  induction xs generalizing d with
  | nil => rfl
  | cons x xs ih => exact (ih (d.offer x)).trans (offer_svc_presence d x)
@[simp] theorem offerAll_svc_status (d : Device) (xs : List Occurrence) :
    (d.offerAll xs).svc.status = d.svc.status := by
  induction xs generalizing d with
  | nil => rfl
  | cons x xs ih => exact (ih (d.offer x)).trans (offer_svc_status d x)
@[simp] theorem offerAll_notices_eng (d : Device) (xs : List Occurrence) :
    (d.offerAll xs).notices.eng = d.notices.eng := by
  induction xs generalizing d with
  | nil => rfl
  | cons x xs ih => exact (ih (d.offer x)).trans (offer_notices_eng d x)
@[simp] theorem offerAll_notices_bat (d : Device) (xs : List Occurrence) :
    (d.offerAll xs).notices.bat = d.notices.bat := by
  induction xs generalizing d with
  | nil => rfl
  | cons x xs ih => exact (ih (d.offer x)).trans (offer_notices_bat d x)
@[simp] theorem offerAll_notices_trc (d : Device) (xs : List Occurrence) :
    (d.offerAll xs).notices.trc = d.notices.trc := by
  induction xs generalizing d with
  | nil => rfl
  | cons x xs ih => exact (ih (d.offer x)).trans (offer_notices_trc d x)
@[simp] theorem offerAll_notices_brk (d : Device) (xs : List Occurrence) :
    (d.offerAll xs).notices.brk = d.notices.brk := by
  induction xs generalizing d with
  | nil => rfl
  | cons x xs ih => exact (ih (d.offer x)).trans (offer_notices_brk d x)

/-! ## overrun -/

@[simp] theorem overrun_inReset (d : Device) (p : Port) : (d.overrun p).inReset = d.inReset := by
  unfold Device.overrun; split <;> simp
@[simp] theorem overrun_ignLine (d : Device) (p : Port) : (d.overrun p).ignLine = d.ignLine := by
  unfold Device.overrun; split <;> simp
@[simp] theorem overrun_doorLine (d : Device) (p : Port) : (d.overrun p).doorLine = d.doorLine := by
  unfold Device.overrun; split <;> simp
@[simp] theorem overrun_mode (d : Device) (p : Port) : (d.overrun p).mode = d.mode := by
  unfold Device.overrun; split <;> simp
@[simp] theorem overrun_alloc (d : Device) (p : Port) : (d.overrun p).alloc = d.alloc := by
  unfold Device.overrun; split <;> simp
@[simp] theorem overrun_account (d : Device) (p : Port) : (d.overrun p).account = d.account := by
  unfold Device.overrun; split <;> simp
@[simp] theorem overrun_route (d : Device) (p : Port) : (d.overrun p).route = d.route := by
  unfold Device.overrun; split <;> simp
@[simp] theorem overrun_arbiter (d : Device) (p : Port) : (d.overrun p).arbiter = d.arbiter := by
  unfold Device.overrun; split <;> simp
@[simp] theorem overrun_seq (d : Device) (p : Port) : (d.overrun p).seq = d.seq := by
  unfold Device.overrun; split <;> simp
@[simp] theorem overrun_wear (d : Device) (p : Port) : (d.overrun p).wear = d.wear := by
  unfold Device.overrun; split <;> simp
@[simp] theorem overrun_nv (d : Device) (p : Port) : (d.overrun p).nv = d.nv := by
  unfold Device.overrun; split <;> simp
@[simp] theorem overrun_params (d : Device) (p : Port) : (d.overrun p).params = d.params := by
  unfold Device.overrun; split <;> simp
@[simp] theorem overrun_ring (d : Device) (p : Port) : (d.overrun p).ring = d.ring := by
  unfold Device.overrun; split <;> simp
@[simp] theorem overrun_runClock (d : Device) (p : Port) : (d.overrun p).runClock = d.runClock := by
  unfold Device.overrun; split <;> simp
@[simp] theorem overrun_clockLeft (d : Device) (p : Port) : (d.overrun p).clockLeft = d.clockLeft := by
  unfold Device.overrun; split <;> simp
@[simp] theorem overrun_notices (d : Device) (p : Port) : (d.overrun p).notices = d.notices := by
  unfold Device.overrun; split <;> simp
@[simp] theorem overrun_tx (d : Device) (p : Port) : (d.overrun p).tx = d.tx := by
  unfold Device.overrun; split <;> simp
@[simp] theorem overrun_free (d : Device) (p : Port) : (d.overrun p).free = d.free := by
  unfold Device.overrun; split <;> simp
@[simp] theorem overrun_svc_presence (d : Device) (p : Port) : (d.overrun p).svc.presence = d.svc.presence := by
  unfold Device.overrun; split <;> simp
@[simp] theorem overrun_svc_status (d : Device) (p : Port) : (d.overrun p).svc.status = d.svc.status := by
  unfold Device.overrun; split <;> simp

/-! ## answer -/

@[simp] theorem answer_inReset (d : Device) (p : Port) (k t : Byte) (c : AnswerCode) (b : List Field) :
    (d.answer p k t c b).inReset = d.inReset := by
  unfold Device.answer; split <;> simp
@[simp] theorem answer_ignLine (d : Device) (p : Port) (k t : Byte) (c : AnswerCode) (b : List Field) :
    (d.answer p k t c b).ignLine = d.ignLine := by
  unfold Device.answer; split <;> simp
@[simp] theorem answer_doorLine (d : Device) (p : Port) (k t : Byte) (c : AnswerCode) (b : List Field) :
    (d.answer p k t c b).doorLine = d.doorLine := by
  unfold Device.answer; split <;> simp
@[simp] theorem answer_mode (d : Device) (p : Port) (k t : Byte) (c : AnswerCode) (b : List Field) :
    (d.answer p k t c b).mode = d.mode := by
  unfold Device.answer; split <;> simp
@[simp] theorem answer_alloc (d : Device) (p : Port) (k t : Byte) (c : AnswerCode) (b : List Field) :
    (d.answer p k t c b).alloc = d.alloc := by
  unfold Device.answer; split <;> simp
@[simp] theorem answer_account (d : Device) (p : Port) (k t : Byte) (c : AnswerCode) (b : List Field) :
    (d.answer p k t c b).account = d.account := by
  unfold Device.answer; split <;> simp
@[simp] theorem answer_route (d : Device) (p : Port) (k t : Byte) (c : AnswerCode) (b : List Field) :
    (d.answer p k t c b).route = d.route := by
  unfold Device.answer; split <;> simp
@[simp] theorem answer_arbiter (d : Device) (p : Port) (k t : Byte) (c : AnswerCode) (b : List Field) :
    (d.answer p k t c b).arbiter = d.arbiter := by
  unfold Device.answer; split <;> simp
@[simp] theorem answer_seq (d : Device) (p : Port) (k t : Byte) (c : AnswerCode) (b : List Field) :
    (d.answer p k t c b).seq = d.seq := by
  unfold Device.answer; split <;> simp
@[simp] theorem answer_wear (d : Device) (p : Port) (k t : Byte) (c : AnswerCode) (b : List Field) :
    (d.answer p k t c b).wear = d.wear := by
  unfold Device.answer; split <;> simp
@[simp] theorem answer_nv (d : Device) (p : Port) (k t : Byte) (c : AnswerCode) (b : List Field) :
    (d.answer p k t c b).nv = d.nv := by
  unfold Device.answer; split <;> simp
@[simp] theorem answer_params (d : Device) (p : Port) (k t : Byte) (c : AnswerCode) (b : List Field) :
    (d.answer p k t c b).params = d.params := by
  unfold Device.answer; split <;> simp
@[simp] theorem answer_ring (d : Device) (p : Port) (k t : Byte) (c : AnswerCode) (b : List Field) :
    (d.answer p k t c b).ring = d.ring := by
  unfold Device.answer; split <;> simp
@[simp] theorem answer_runClock (d : Device) (p : Port) (k t : Byte) (c : AnswerCode) (b : List Field) :
    (d.answer p k t c b).runClock = d.runClock := by
  unfold Device.answer; split <;> simp
@[simp] theorem answer_clockLeft (d : Device) (p : Port) (k t : Byte) (c : AnswerCode) (b : List Field) :
    (d.answer p k t c b).clockLeft = d.clockLeft := by
  unfold Device.answer; split <;> simp
@[simp] theorem answer_notices (d : Device) (p : Port) (k t : Byte) (c : AnswerCode) (b : List Field) :
    (d.answer p k t c b).notices = d.notices := by
  unfold Device.answer; split <;> simp
@[simp] theorem answer_free (d : Device) (p : Port) (k t : Byte) (c : AnswerCode) (b : List Field) :
    (d.answer p k t c b).free = d.free := by
  unfold Device.answer; split <;> simp
@[simp] theorem answer_svc_presence (d : Device) (p : Port) (k t : Byte) (c : AnswerCode) (b : List Field) :
    (d.answer p k t c b).svc.presence = d.svc.presence := by
  unfold Device.answer; split <;> simp
@[simp] theorem answer_svc_status (d : Device) (p : Port) (k t : Byte) (c : AnswerCode) (b : List Field) :
    (d.answer p k t c b).svc.status = d.svc.status := by
  unfold Device.answer; split <;> simp

/-! ## reply -/

@[simp] theorem reply_inReset (d : Device) (r : Request) (c : AnswerCode) (b : List Field) :
    (d.reply r c b).inReset = d.inReset := by
  simp [Device.reply]
@[simp] theorem reply_ignLine (d : Device) (r : Request) (c : AnswerCode) (b : List Field) :
    (d.reply r c b).ignLine = d.ignLine := by
  simp [Device.reply]
@[simp] theorem reply_doorLine (d : Device) (r : Request) (c : AnswerCode) (b : List Field) :
    (d.reply r c b).doorLine = d.doorLine := by
  simp [Device.reply]
@[simp] theorem reply_mode (d : Device) (r : Request) (c : AnswerCode) (b : List Field) :
    (d.reply r c b).mode = d.mode := by
  simp [Device.reply]
@[simp] theorem reply_alloc (d : Device) (r : Request) (c : AnswerCode) (b : List Field) :
    (d.reply r c b).alloc = d.alloc := by
  simp [Device.reply]
@[simp] theorem reply_account (d : Device) (r : Request) (c : AnswerCode) (b : List Field) :
    (d.reply r c b).account = d.account := by
  simp [Device.reply]
@[simp] theorem reply_route (d : Device) (r : Request) (c : AnswerCode) (b : List Field) :
    (d.reply r c b).route = d.route := by
  simp [Device.reply]
@[simp] theorem reply_arbiter (d : Device) (r : Request) (c : AnswerCode) (b : List Field) :
    (d.reply r c b).arbiter = d.arbiter := by
  simp [Device.reply]
@[simp] theorem reply_seq (d : Device) (r : Request) (c : AnswerCode) (b : List Field) :
    (d.reply r c b).seq = d.seq := by
  simp [Device.reply]
@[simp] theorem reply_wear (d : Device) (r : Request) (c : AnswerCode) (b : List Field) :
    (d.reply r c b).wear = d.wear := by
  simp [Device.reply]
@[simp] theorem reply_nv (d : Device) (r : Request) (c : AnswerCode) (b : List Field) :
    (d.reply r c b).nv = d.nv := by
  simp [Device.reply]
@[simp] theorem reply_params (d : Device) (r : Request) (c : AnswerCode) (b : List Field) :
    (d.reply r c b).params = d.params := by
  simp [Device.reply]
@[simp] theorem reply_ring (d : Device) (r : Request) (c : AnswerCode) (b : List Field) :
    (d.reply r c b).ring = d.ring := by
  simp [Device.reply]
@[simp] theorem reply_runClock (d : Device) (r : Request) (c : AnswerCode) (b : List Field) :
    (d.reply r c b).runClock = d.runClock := by
  simp [Device.reply]
@[simp] theorem reply_clockLeft (d : Device) (r : Request) (c : AnswerCode) (b : List Field) :
    (d.reply r c b).clockLeft = d.clockLeft := by
  simp [Device.reply]
@[simp] theorem reply_notices (d : Device) (r : Request) (c : AnswerCode) (b : List Field) :
    (d.reply r c b).notices = d.notices := by
  simp [Device.reply]
@[simp] theorem reply_free (d : Device) (r : Request) (c : AnswerCode) (b : List Field) :
    (d.reply r c b).free = d.free := by
  simp [Device.reply]
@[simp] theorem reply_svc_presence (d : Device) (r : Request) (c : AnswerCode) (b : List Field) :
    (d.reply r c b).svc.presence = d.svc.presence := by
  simp [Device.reply]
@[simp] theorem reply_svc_status (d : Device) (r : Request) (c : AnswerCode) (b : List Field) :
    (d.reply r c b).svc.status = d.svc.status := by
  simp [Device.reply]

/-! ## raiseWear -/

@[simp] theorem raiseWear_inReset (d : Device) (i : Item) (k : HeldKind) :
    (d.raiseWear i k).inReset = d.inReset := by
  simp [Device.raiseWear]
@[simp] theorem raiseWear_ignLine (d : Device) (i : Item) (k : HeldKind) :
    (d.raiseWear i k).ignLine = d.ignLine := by
  simp [Device.raiseWear]
@[simp] theorem raiseWear_doorLine (d : Device) (i : Item) (k : HeldKind) :
    (d.raiseWear i k).doorLine = d.doorLine := by
  simp [Device.raiseWear]
@[simp] theorem raiseWear_mode (d : Device) (i : Item) (k : HeldKind) : (d.raiseWear i k).mode = d.mode := by
  simp [Device.raiseWear]
@[simp] theorem raiseWear_links (d : Device) (i : Item) (k : HeldKind) : (d.raiseWear i k).links = d.links := by
  simp [Device.raiseWear]
@[simp] theorem raiseWear_svc (d : Device) (i : Item) (k : HeldKind) : (d.raiseWear i k).svc = d.svc := by
  simp [Device.raiseWear]
@[simp] theorem raiseWear_alloc (d : Device) (i : Item) (k : HeldKind) : (d.raiseWear i k).alloc = d.alloc := by
  simp [Device.raiseWear]
@[simp] theorem raiseWear_account (d : Device) (i : Item) (k : HeldKind) :
    (d.raiseWear i k).account = d.account := by
  simp [Device.raiseWear]
@[simp] theorem raiseWear_route (d : Device) (i : Item) (k : HeldKind) : (d.raiseWear i k).route = d.route := by
  simp [Device.raiseWear]
@[simp] theorem raiseWear_arbiter (d : Device) (i : Item) (k : HeldKind) :
    (d.raiseWear i k).arbiter = d.arbiter := by
  simp [Device.raiseWear]
@[simp] theorem raiseWear_seq (d : Device) (i : Item) (k : HeldKind) : (d.raiseWear i k).seq = d.seq := by
  simp [Device.raiseWear]
@[simp] theorem raiseWear_wear (d : Device) (i : Item) (k : HeldKind) : (d.raiseWear i k).wear = d.wear := by
  simp [Device.raiseWear]
@[simp] theorem raiseWear_nv (d : Device) (i : Item) (k : HeldKind) : (d.raiseWear i k).nv = d.nv := by
  simp [Device.raiseWear]
@[simp] theorem raiseWear_params (d : Device) (i : Item) (k : HeldKind) : (d.raiseWear i k).params = d.params := by
  simp [Device.raiseWear]
@[simp] theorem raiseWear_ring (d : Device) (i : Item) (k : HeldKind) : (d.raiseWear i k).ring = d.ring := by
  simp [Device.raiseWear]
@[simp] theorem raiseWear_runClock (d : Device) (i : Item) (k : HeldKind) :
    (d.raiseWear i k).runClock = d.runClock := by
  simp [Device.raiseWear]
@[simp] theorem raiseWear_clockLeft (d : Device) (i : Item) (k : HeldKind) :
    (d.raiseWear i k).clockLeft = d.clockLeft := by
  simp [Device.raiseWear]
@[simp] theorem raiseWear_tx (d : Device) (i : Item) (k : HeldKind) : (d.raiseWear i k).tx = d.tx := by
  simp [Device.raiseWear]
@[simp] theorem raiseWear_free (d : Device) (i : Item) (k : HeldKind) : (d.raiseWear i k).free = d.free := by
  simp [Device.raiseWear]

/-! ## raiseWearAll -/

@[simp] theorem raiseWearAll_inReset (d : Device) (i : Item) (ks : List HeldKind) : (d.raiseWearAll i ks).inReset = d.inReset := by
  induction ks generalizing d with
  | nil => rfl
  | cons k ks ih => exact (ih (d.raiseWear i k)).trans (raiseWear_inReset d i k)
@[simp] theorem raiseWearAll_ignLine (d : Device) (i : Item) (ks : List HeldKind) : (d.raiseWearAll i ks).ignLine = d.ignLine := by
  induction ks generalizing d with
  | nil => rfl
  | cons k ks ih => exact (ih (d.raiseWear i k)).trans (raiseWear_ignLine d i k)
@[simp] theorem raiseWearAll_doorLine (d : Device) (i : Item) (ks : List HeldKind) : (d.raiseWearAll i ks).doorLine = d.doorLine := by
  induction ks generalizing d with
  | nil => rfl
  | cons k ks ih => exact (ih (d.raiseWear i k)).trans (raiseWear_doorLine d i k)
@[simp] theorem raiseWearAll_mode (d : Device) (i : Item) (ks : List HeldKind) : (d.raiseWearAll i ks).mode = d.mode := by
  induction ks generalizing d with
  | nil => rfl
  | cons k ks ih => exact (ih (d.raiseWear i k)).trans (raiseWear_mode d i k)
@[simp] theorem raiseWearAll_links (d : Device) (i : Item) (ks : List HeldKind) : (d.raiseWearAll i ks).links = d.links := by
  induction ks generalizing d with
  | nil => rfl
  | cons k ks ih => exact (ih (d.raiseWear i k)).trans (raiseWear_links d i k)
@[simp] theorem raiseWearAll_svc (d : Device) (i : Item) (ks : List HeldKind) : (d.raiseWearAll i ks).svc = d.svc := by
  induction ks generalizing d with
  | nil => rfl
  | cons k ks ih => exact (ih (d.raiseWear i k)).trans (raiseWear_svc d i k)
@[simp] theorem raiseWearAll_alloc (d : Device) (i : Item) (ks : List HeldKind) : (d.raiseWearAll i ks).alloc = d.alloc := by
  induction ks generalizing d with
  | nil => rfl
  | cons k ks ih => exact (ih (d.raiseWear i k)).trans (raiseWear_alloc d i k)
@[simp] theorem raiseWearAll_account (d : Device) (i : Item) (ks : List HeldKind) : (d.raiseWearAll i ks).account = d.account := by
  induction ks generalizing d with
  | nil => rfl
  | cons k ks ih => exact (ih (d.raiseWear i k)).trans (raiseWear_account d i k)
@[simp] theorem raiseWearAll_route (d : Device) (i : Item) (ks : List HeldKind) : (d.raiseWearAll i ks).route = d.route := by
  induction ks generalizing d with
  | nil => rfl
  | cons k ks ih => exact (ih (d.raiseWear i k)).trans (raiseWear_route d i k)
@[simp] theorem raiseWearAll_arbiter (d : Device) (i : Item) (ks : List HeldKind) : (d.raiseWearAll i ks).arbiter = d.arbiter := by
  induction ks generalizing d with
  | nil => rfl
  | cons k ks ih => exact (ih (d.raiseWear i k)).trans (raiseWear_arbiter d i k)
@[simp] theorem raiseWearAll_seq (d : Device) (i : Item) (ks : List HeldKind) : (d.raiseWearAll i ks).seq = d.seq := by
  induction ks generalizing d with
  | nil => rfl
  | cons k ks ih => exact (ih (d.raiseWear i k)).trans (raiseWear_seq d i k)
@[simp] theorem raiseWearAll_wear (d : Device) (i : Item) (ks : List HeldKind) : (d.raiseWearAll i ks).wear = d.wear := by
  induction ks generalizing d with
  | nil => rfl
  | cons k ks ih => exact (ih (d.raiseWear i k)).trans (raiseWear_wear d i k)
@[simp] theorem raiseWearAll_nv (d : Device) (i : Item) (ks : List HeldKind) : (d.raiseWearAll i ks).nv = d.nv := by
  induction ks generalizing d with
  | nil => rfl
  | cons k ks ih => exact (ih (d.raiseWear i k)).trans (raiseWear_nv d i k)
@[simp] theorem raiseWearAll_params (d : Device) (i : Item) (ks : List HeldKind) : (d.raiseWearAll i ks).params = d.params := by
  induction ks generalizing d with
  | nil => rfl
  | cons k ks ih => exact (ih (d.raiseWear i k)).trans (raiseWear_params d i k)
@[simp] theorem raiseWearAll_ring (d : Device) (i : Item) (ks : List HeldKind) : (d.raiseWearAll i ks).ring = d.ring := by
  induction ks generalizing d with
  | nil => rfl
  | cons k ks ih => exact (ih (d.raiseWear i k)).trans (raiseWear_ring d i k)
@[simp] theorem raiseWearAll_runClock (d : Device) (i : Item) (ks : List HeldKind) : (d.raiseWearAll i ks).runClock = d.runClock := by
  induction ks generalizing d with
  | nil => rfl
  | cons k ks ih => exact (ih (d.raiseWear i k)).trans (raiseWear_runClock d i k)
@[simp] theorem raiseWearAll_clockLeft (d : Device) (i : Item) (ks : List HeldKind) : (d.raiseWearAll i ks).clockLeft = d.clockLeft := by
  induction ks generalizing d with
  | nil => rfl
  | cons k ks ih => exact (ih (d.raiseWear i k)).trans (raiseWear_clockLeft d i k)
@[simp] theorem raiseWearAll_tx (d : Device) (i : Item) (ks : List HeldKind) : (d.raiseWearAll i ks).tx = d.tx := by
  induction ks generalizing d with
  | nil => rfl
  | cons k ks ih => exact (ih (d.raiseWear i k)).trans (raiseWear_tx d i k)
@[simp] theorem raiseWearAll_free (d : Device) (i : Item) (ks : List HeldKind) : (d.raiseWearAll i ks).free = d.free := by
  induction ks generalizing d with
  | nil => rfl
  | cons k ks ih => exact (ih (d.raiseWear i k)).trans (raiseWear_free d i k)

/-! ## offerWear -/

@[simp] theorem offerWear_inReset (d : Device) (i : Item) (c : WearCause) :
    (d.offerWear i c).inReset = d.inReset := by
  simp [Device.offerWear]
@[simp] theorem offerWear_ignLine (d : Device) (i : Item) (c : WearCause) :
    (d.offerWear i c).ignLine = d.ignLine := by
  simp [Device.offerWear]
@[simp] theorem offerWear_doorLine (d : Device) (i : Item) (c : WearCause) :
    (d.offerWear i c).doorLine = d.doorLine := by
  simp [Device.offerWear]
@[simp] theorem offerWear_mode (d : Device) (i : Item) (c : WearCause) : (d.offerWear i c).mode = d.mode := by
  simp [Device.offerWear]
@[simp] theorem offerWear_links (d : Device) (i : Item) (c : WearCause) : (d.offerWear i c).links = d.links := by
  simp [Device.offerWear]
@[simp] theorem offerWear_alloc (d : Device) (i : Item) (c : WearCause) : (d.offerWear i c).alloc = d.alloc := by
  simp [Device.offerWear]
@[simp] theorem offerWear_account (d : Device) (i : Item) (c : WearCause) :
    (d.offerWear i c).account = d.account := by
  simp [Device.offerWear]
@[simp] theorem offerWear_route (d : Device) (i : Item) (c : WearCause) : (d.offerWear i c).route = d.route := by
  simp [Device.offerWear]
@[simp] theorem offerWear_arbiter (d : Device) (i : Item) (c : WearCause) :
    (d.offerWear i c).arbiter = d.arbiter := by
  simp [Device.offerWear]
@[simp] theorem offerWear_seq (d : Device) (i : Item) (c : WearCause) : (d.offerWear i c).seq = d.seq := by
  simp [Device.offerWear]
@[simp] theorem offerWear_wear (d : Device) (i : Item) (c : WearCause) : (d.offerWear i c).wear = d.wear := by
  simp [Device.offerWear]
@[simp] theorem offerWear_nv (d : Device) (i : Item) (c : WearCause) : (d.offerWear i c).nv = d.nv := by
  simp [Device.offerWear]
@[simp] theorem offerWear_params (d : Device) (i : Item) (c : WearCause) : (d.offerWear i c).params = d.params := by
  simp [Device.offerWear]
@[simp] theorem offerWear_runClock (d : Device) (i : Item) (c : WearCause) :
    (d.offerWear i c).runClock = d.runClock := by
  simp [Device.offerWear]
@[simp] theorem offerWear_clockLeft (d : Device) (i : Item) (c : WearCause) :
    (d.offerWear i c).clockLeft = d.clockLeft := by
  simp [Device.offerWear]
@[simp] theorem offerWear_tx_veh (d : Device) (i : Item) (c : WearCause) : (d.offerWear i c).tx.veh = d.tx.veh := by
  simp [Device.offerWear]
@[simp] theorem offerWear_tx_eng (d : Device) (i : Item) (c : WearCause) : (d.offerWear i c).tx.eng = d.tx.eng := by
  simp [Device.offerWear]
@[simp] theorem offerWear_tx_bat (d : Device) (i : Item) (c : WearCause) : (d.offerWear i c).tx.bat = d.tx.bat := by
  simp [Device.offerWear]
@[simp] theorem offerWear_tx_trc (d : Device) (i : Item) (c : WearCause) : (d.offerWear i c).tx.trc = d.tx.trc := by
  simp [Device.offerWear]
@[simp] theorem offerWear_tx_brk (d : Device) (i : Item) (c : WearCause) : (d.offerWear i c).tx.brk = d.tx.brk := by
  simp [Device.offerWear]
@[simp] theorem offerWear_svc_presence (d : Device) (i : Item) (c : WearCause) :
    (d.offerWear i c).svc.presence = d.svc.presence := by
  simp [Device.offerWear]
@[simp] theorem offerWear_svc_status (d : Device) (i : Item) (c : WearCause) :
    (d.offerWear i c).svc.status = d.svc.status := by
  simp [Device.offerWear]

/-! ## recomputeWear -/

@[simp] theorem recomputeWear_inReset (d : Device) (i : Item) (c : WearCause) :
    (d.recomputeWear i c).inReset = d.inReset := by
  unfold Device.recomputeWear; dsimp only; split <;> simp
@[simp] theorem recomputeWear_ignLine (d : Device) (i : Item) (c : WearCause) :
    (d.recomputeWear i c).ignLine = d.ignLine := by
  unfold Device.recomputeWear; dsimp only; split <;> simp
@[simp] theorem recomputeWear_doorLine (d : Device) (i : Item) (c : WearCause) :
    (d.recomputeWear i c).doorLine = d.doorLine := by
  unfold Device.recomputeWear; dsimp only; split <;> simp
@[simp] theorem recomputeWear_mode (d : Device) (i : Item) (c : WearCause) :
    (d.recomputeWear i c).mode = d.mode := by
  unfold Device.recomputeWear; dsimp only; split <;> simp
@[simp] theorem recomputeWear_links (d : Device) (i : Item) (c : WearCause) :
    (d.recomputeWear i c).links = d.links := by
  unfold Device.recomputeWear; dsimp only; split <;> simp
@[simp] theorem recomputeWear_alloc (d : Device) (i : Item) (c : WearCause) :
    (d.recomputeWear i c).alloc = d.alloc := by
  unfold Device.recomputeWear; dsimp only; split <;> simp
@[simp] theorem recomputeWear_account (d : Device) (i : Item) (c : WearCause) :
    (d.recomputeWear i c).account = d.account := by
  unfold Device.recomputeWear; dsimp only; split <;> simp
@[simp] theorem recomputeWear_route (d : Device) (i : Item) (c : WearCause) :
    (d.recomputeWear i c).route = d.route := by
  unfold Device.recomputeWear; dsimp only; split <;> simp
@[simp] theorem recomputeWear_arbiter (d : Device) (i : Item) (c : WearCause) :
    (d.recomputeWear i c).arbiter = d.arbiter := by
  unfold Device.recomputeWear; dsimp only; split <;> simp
@[simp] theorem recomputeWear_seq (d : Device) (i : Item) (c : WearCause) : (d.recomputeWear i c).seq = d.seq := by
  unfold Device.recomputeWear; dsimp only; split <;> simp
@[simp] theorem recomputeWear_nv (d : Device) (i : Item) (c : WearCause) : (d.recomputeWear i c).nv = d.nv := by
  unfold Device.recomputeWear; dsimp only; split <;> simp
@[simp] theorem recomputeWear_params (d : Device) (i : Item) (c : WearCause) :
    (d.recomputeWear i c).params = d.params := by
  unfold Device.recomputeWear; dsimp only; split <;> simp
@[simp] theorem recomputeWear_runClock (d : Device) (i : Item) (c : WearCause) :
    (d.recomputeWear i c).runClock = d.runClock := by
  unfold Device.recomputeWear; dsimp only; split <;> simp
@[simp] theorem recomputeWear_clockLeft (d : Device) (i : Item) (c : WearCause) :
    (d.recomputeWear i c).clockLeft = d.clockLeft := by
  unfold Device.recomputeWear; dsimp only; split <;> simp
@[simp] theorem recomputeWear_tx_veh (d : Device) (i : Item) (c : WearCause) :
    (d.recomputeWear i c).tx.veh = d.tx.veh := by
  unfold Device.recomputeWear; dsimp only; split <;> simp
@[simp] theorem recomputeWear_tx_eng (d : Device) (i : Item) (c : WearCause) :
    (d.recomputeWear i c).tx.eng = d.tx.eng := by
  unfold Device.recomputeWear; dsimp only; split <;> simp
@[simp] theorem recomputeWear_tx_bat (d : Device) (i : Item) (c : WearCause) :
    (d.recomputeWear i c).tx.bat = d.tx.bat := by
  unfold Device.recomputeWear; dsimp only; split <;> simp
@[simp] theorem recomputeWear_tx_trc (d : Device) (i : Item) (c : WearCause) :
    (d.recomputeWear i c).tx.trc = d.tx.trc := by
  unfold Device.recomputeWear; dsimp only; split <;> simp
@[simp] theorem recomputeWear_tx_brk (d : Device) (i : Item) (c : WearCause) :
    (d.recomputeWear i c).tx.brk = d.tx.brk := by
  unfold Device.recomputeWear; dsimp only; split <;> simp
@[simp] theorem recomputeWear_svc_presence (d : Device) (i : Item) (c : WearCause) :
    (d.recomputeWear i c).svc.presence = d.svc.presence := by
  unfold Device.recomputeWear; dsimp only; split <;> simp
@[simp] theorem recomputeWear_svc_status (d : Device) (i : Item) (c : WearCause) :
    (d.recomputeWear i c).svc.status = d.svc.status := by
  unfold Device.recomputeWear; dsimp only; split <;> simp

/-! ## startNext -/

@[simp] theorem startNext_inReset (d : Device) : (d.startNext).inReset = d.inReset := by
  unfold Device.startNext; split <;> (try split) <;> rfl
@[simp] theorem startNext_ignLine (d : Device) : (d.startNext).ignLine = d.ignLine := by
  unfold Device.startNext; split <;> (try split) <;> rfl
@[simp] theorem startNext_doorLine (d : Device) : (d.startNext).doorLine = d.doorLine := by
  unfold Device.startNext; split <;> (try split) <;> rfl
@[simp] theorem startNext_mode (d : Device) : (d.startNext).mode = d.mode := by
  unfold Device.startNext; split <;> (try split) <;> rfl
@[simp] theorem startNext_links (d : Device) : (d.startNext).links = d.links := by
  unfold Device.startNext; split <;> (try split) <;> rfl
@[simp] theorem startNext_svc (d : Device) : (d.startNext).svc = d.svc := by
  unfold Device.startNext; split <;> (try split) <;> rfl
@[simp] theorem startNext_alloc (d : Device) : (d.startNext).alloc = d.alloc := by
  unfold Device.startNext; split <;> (try split) <;> rfl
@[simp] theorem startNext_account (d : Device) : (d.startNext).account = d.account := by
  unfold Device.startNext; split <;> (try split) <;> rfl
@[simp] theorem startNext_route (d : Device) : (d.startNext).route = d.route := by
  unfold Device.startNext; split <;> (try split) <;> rfl
@[simp] theorem startNext_arbiter (d : Device) : (d.startNext).arbiter = d.arbiter := by
  unfold Device.startNext; split <;> (try split) <;> rfl
@[simp] theorem startNext_seq (d : Device) : (d.startNext).seq = d.seq := by
  unfold Device.startNext; split <;> (try split) <;> rfl
@[simp] theorem startNext_params (d : Device) : (d.startNext).params = d.params := by
  unfold Device.startNext; split <;> (try split) <;> rfl
@[simp] theorem startNext_ring (d : Device) : (d.startNext).ring = d.ring := by
  unfold Device.startNext; split <;> (try split) <;> rfl
@[simp] theorem startNext_runClock (d : Device) : (d.startNext).runClock = d.runClock := by
  unfold Device.startNext; split <;> (try split) <;> rfl
@[simp] theorem startNext_clockLeft (d : Device) : (d.startNext).clockLeft = d.clockLeft := by
  unfold Device.startNext; split <;> (try split) <;> rfl
@[simp] theorem startNext_notices (d : Device) : (d.startNext).notices = d.notices := by
  unfold Device.startNext; split <;> (try split) <;> rfl
@[simp] theorem startNext_tx (d : Device) : (d.startNext).tx = d.tx := by
  unfold Device.startNext; split <;> (try split) <;> rfl
@[simp] theorem startNext_free (d : Device) : (d.startNext).free = d.free := by
  unfold Device.startNext; split <;> (try split) <;> rfl

/-! ## kick -/

@[simp] theorem kick_inReset (d : Device) : (d.kick).inReset = d.inReset := by
  unfold Device.kick; split <;> simp
@[simp] theorem kick_ignLine (d : Device) : (d.kick).ignLine = d.ignLine := by
  unfold Device.kick; split <;> simp
@[simp] theorem kick_doorLine (d : Device) : (d.kick).doorLine = d.doorLine := by
  unfold Device.kick; split <;> simp
@[simp] theorem kick_mode (d : Device) : (d.kick).mode = d.mode := by
  unfold Device.kick; split <;> simp
@[simp] theorem kick_links (d : Device) : (d.kick).links = d.links := by
  unfold Device.kick; split <;> simp
@[simp] theorem kick_svc (d : Device) : (d.kick).svc = d.svc := by
  unfold Device.kick; split <;> simp
@[simp] theorem kick_alloc (d : Device) : (d.kick).alloc = d.alloc := by
  unfold Device.kick; split <;> simp
@[simp] theorem kick_account (d : Device) : (d.kick).account = d.account := by
  unfold Device.kick; split <;> simp
@[simp] theorem kick_route (d : Device) : (d.kick).route = d.route := by
  unfold Device.kick; split <;> simp
@[simp] theorem kick_arbiter (d : Device) : (d.kick).arbiter = d.arbiter := by
  unfold Device.kick; split <;> simp
@[simp] theorem kick_seq (d : Device) : (d.kick).seq = d.seq := by
  unfold Device.kick; split <;> simp
@[simp] theorem kick_params (d : Device) : (d.kick).params = d.params := by
  unfold Device.kick; split <;> simp
@[simp] theorem kick_ring (d : Device) : (d.kick).ring = d.ring := by
  unfold Device.kick; split <;> simp
@[simp] theorem kick_runClock (d : Device) : (d.kick).runClock = d.runClock := by
  unfold Device.kick; split <;> simp
@[simp] theorem kick_clockLeft (d : Device) : (d.kick).clockLeft = d.clockLeft := by
  unfold Device.kick; split <;> simp
@[simp] theorem kick_notices (d : Device) : (d.kick).notices = d.notices := by
  unfold Device.kick; split <;> simp
@[simp] theorem kick_tx (d : Device) : (d.kick).tx = d.tx := by
  unfold Device.kick; split <;> simp
@[simp] theorem kick_free (d : Device) : (d.kick).free = d.free := by
  unfold Device.kick; split <;> simp

/-! ## kickFirst -/

@[simp] theorem kickFirst_inReset (d : Device) : (d.kickFirst).inReset = d.inReset := by
  unfold Device.kickFirst; split <;> simp
@[simp] theorem kickFirst_ignLine (d : Device) : (d.kickFirst).ignLine = d.ignLine := by
  unfold Device.kickFirst; split <;> simp
@[simp] theorem kickFirst_doorLine (d : Device) : (d.kickFirst).doorLine = d.doorLine := by
  unfold Device.kickFirst; split <;> simp
@[simp] theorem kickFirst_mode (d : Device) : (d.kickFirst).mode = d.mode := by
  unfold Device.kickFirst; split <;> simp
@[simp] theorem kickFirst_links (d : Device) : (d.kickFirst).links = d.links := by
  unfold Device.kickFirst; split <;> simp
@[simp] theorem kickFirst_svc (d : Device) : (d.kickFirst).svc = d.svc := by
  unfold Device.kickFirst; split <;> simp
@[simp] theorem kickFirst_alloc (d : Device) : (d.kickFirst).alloc = d.alloc := by
  unfold Device.kickFirst; split <;> simp
@[simp] theorem kickFirst_account (d : Device) : (d.kickFirst).account = d.account := by
  unfold Device.kickFirst; split <;> simp
@[simp] theorem kickFirst_route (d : Device) : (d.kickFirst).route = d.route := by
  unfold Device.kickFirst; split <;> simp
@[simp] theorem kickFirst_arbiter (d : Device) : (d.kickFirst).arbiter = d.arbiter := by
  unfold Device.kickFirst; split <;> simp
@[simp] theorem kickFirst_seq (d : Device) : (d.kickFirst).seq = d.seq := by
  unfold Device.kickFirst; split <;> simp
@[simp] theorem kickFirst_params (d : Device) : (d.kickFirst).params = d.params := by
  unfold Device.kickFirst; split <;> simp
@[simp] theorem kickFirst_ring (d : Device) : (d.kickFirst).ring = d.ring := by
  unfold Device.kickFirst; split <;> simp
@[simp] theorem kickFirst_runClock (d : Device) : (d.kickFirst).runClock = d.runClock := by
  unfold Device.kickFirst; split <;> simp
@[simp] theorem kickFirst_clockLeft (d : Device) : (d.kickFirst).clockLeft = d.clockLeft := by
  unfold Device.kickFirst; split <;> simp
@[simp] theorem kickFirst_notices (d : Device) : (d.kickFirst).notices = d.notices := by
  unfold Device.kickFirst; split <;> simp
@[simp] theorem kickFirst_tx (d : Device) : (d.kickFirst).tx = d.tx := by
  unfold Device.kickFirst; split <;> simp
@[simp] theorem kickFirst_free (d : Device) : (d.kickFirst).free = d.free := by
  unfold Device.kickFirst; split <;> simp

/-- All that a flag set on a wear cell can do to the engine: a block write that gives way is pending again and the engine
chooses anew, an idle engine chooses, and a busy one goes on (R149, R184; log 31). -/
theorem kickFirst_cases (d : Device) :
    (d.nv.givesWay = true ∧ d.kickFirst = ({ d with nv := { d.nv with blockPending := true } }).startNext)
      ∨ (d.nv.givesWay = false ∧ d.nv.writing = none ∧ d.kickFirst = d.startNext)
      ∨ (d.nv.givesWay = false ∧ d.nv.writing ≠ none ∧ d.kickFirst = d) := by
  by_cases h : d.nv.givesWay = true <;> by_cases w : d.nv.writing = none <;>
    simp [Device.kickFirst, Device.kick, h, w]

/-! ## feedWear -/

@[simp] theorem feedWear_inReset (d : Device) (i : Item) (n : Nat) : (d.feedWear i n).inReset = d.inReset := by
  unfold Device.feedWear; dsimp only; split <;> (try split) <;> (try split) <;> simp
@[simp] theorem feedWear_ignLine (d : Device) (i : Item) (n : Nat) : (d.feedWear i n).ignLine = d.ignLine := by
  unfold Device.feedWear; dsimp only; split <;> (try split) <;> (try split) <;> simp
@[simp] theorem feedWear_doorLine (d : Device) (i : Item) (n : Nat) : (d.feedWear i n).doorLine = d.doorLine := by
  unfold Device.feedWear; dsimp only; split <;> (try split) <;> (try split) <;> simp
@[simp] theorem feedWear_mode (d : Device) (i : Item) (n : Nat) : (d.feedWear i n).mode = d.mode := by
  unfold Device.feedWear; dsimp only; split <;> (try split) <;> (try split) <;> simp
@[simp] theorem feedWear_links (d : Device) (i : Item) (n : Nat) : (d.feedWear i n).links = d.links := by
  unfold Device.feedWear; dsimp only; split <;> (try split) <;> (try split) <;> simp
@[simp] theorem feedWear_alloc (d : Device) (i : Item) (n : Nat) : (d.feedWear i n).alloc = d.alloc := by
  unfold Device.feedWear; dsimp only; split <;> (try split) <;> (try split) <;> simp
@[simp] theorem feedWear_account (d : Device) (i : Item) (n : Nat) : (d.feedWear i n).account = d.account := by
  unfold Device.feedWear; dsimp only; split <;> (try split) <;> (try split) <;> simp
@[simp] theorem feedWear_route (d : Device) (i : Item) (n : Nat) : (d.feedWear i n).route = d.route := by
  unfold Device.feedWear; dsimp only; split <;> (try split) <;> (try split) <;> simp
@[simp] theorem feedWear_arbiter (d : Device) (i : Item) (n : Nat) : (d.feedWear i n).arbiter = d.arbiter := by
  unfold Device.feedWear; dsimp only; split <;> (try split) <;> (try split) <;> simp
@[simp] theorem feedWear_seq (d : Device) (i : Item) (n : Nat) : (d.feedWear i n).seq = d.seq := by
  unfold Device.feedWear; dsimp only; split <;> (try split) <;> (try split) <;> simp
@[simp] theorem feedWear_params (d : Device) (i : Item) (n : Nat) : (d.feedWear i n).params = d.params := by
  unfold Device.feedWear; dsimp only; split <;> (try split) <;> (try split) <;> simp
@[simp] theorem feedWear_runClock (d : Device) (i : Item) (n : Nat) : (d.feedWear i n).runClock = d.runClock := by
  unfold Device.feedWear; dsimp only; split <;> (try split) <;> (try split) <;> simp
@[simp] theorem feedWear_clockLeft (d : Device) (i : Item) (n : Nat) :
    (d.feedWear i n).clockLeft = d.clockLeft := by
  unfold Device.feedWear; dsimp only; split <;> (try split) <;> (try split) <;> simp
@[simp] theorem feedWear_tx_veh (d : Device) (i : Item) (n : Nat) : (d.feedWear i n).tx.veh = d.tx.veh := by
  unfold Device.feedWear; dsimp only; split <;> (try split) <;> (try split) <;> simp
@[simp] theorem feedWear_tx_eng (d : Device) (i : Item) (n : Nat) : (d.feedWear i n).tx.eng = d.tx.eng := by
  unfold Device.feedWear; dsimp only; split <;> (try split) <;> (try split) <;> simp
@[simp] theorem feedWear_tx_bat (d : Device) (i : Item) (n : Nat) : (d.feedWear i n).tx.bat = d.tx.bat := by
  unfold Device.feedWear; dsimp only; split <;> (try split) <;> (try split) <;> simp
@[simp] theorem feedWear_tx_trc (d : Device) (i : Item) (n : Nat) : (d.feedWear i n).tx.trc = d.tx.trc := by
  unfold Device.feedWear; dsimp only; split <;> (try split) <;> (try split) <;> simp
@[simp] theorem feedWear_tx_brk (d : Device) (i : Item) (n : Nat) : (d.feedWear i n).tx.brk = d.tx.brk := by
  unfold Device.feedWear; dsimp only; split <;> (try split) <;> (try split) <;> simp
@[simp] theorem feedWear_svc_presence (d : Device) (i : Item) (n : Nat) :
    (d.feedWear i n).svc.presence = d.svc.presence := by
  unfold Device.feedWear; dsimp only; split <;> (try split) <;> (try split) <;> simp
@[simp] theorem feedWear_svc_status (d : Device) (i : Item) (n : Nat) :
    (d.feedWear i n).svc.status = d.svc.status := by
  unfold Device.feedWear; dsimp only; split <;> (try split) <;> (try split) <;> simp

/-! ## placeGrant -/

@[simp] theorem placeGrant_inReset (d : Device) (m : Member) (g : TxFrame) :
    (d.placeGrant m g).inReset = d.inReset := by
  simp [Device.placeGrant]
@[simp] theorem placeGrant_ignLine (d : Device) (m : Member) (g : TxFrame) :
    (d.placeGrant m g).ignLine = d.ignLine := by
  simp [Device.placeGrant]
@[simp] theorem placeGrant_doorLine (d : Device) (m : Member) (g : TxFrame) :
    (d.placeGrant m g).doorLine = d.doorLine := by
  simp [Device.placeGrant]
@[simp] theorem placeGrant_mode (d : Device) (m : Member) (g : TxFrame) : (d.placeGrant m g).mode = d.mode := by
  simp [Device.placeGrant]
@[simp] theorem placeGrant_links (d : Device) (m : Member) (g : TxFrame) : (d.placeGrant m g).links = d.links := by
  simp [Device.placeGrant]
@[simp] theorem placeGrant_svc (d : Device) (m : Member) (g : TxFrame) : (d.placeGrant m g).svc = d.svc := by
  simp [Device.placeGrant]
@[simp] theorem placeGrant_alloc (d : Device) (m : Member) (g : TxFrame) : (d.placeGrant m g).alloc = d.alloc := by
  simp [Device.placeGrant]
@[simp] theorem placeGrant_account (d : Device) (m : Member) (g : TxFrame) :
    (d.placeGrant m g).account = d.account := by
  simp [Device.placeGrant]
@[simp] theorem placeGrant_route (d : Device) (m : Member) (g : TxFrame) : (d.placeGrant m g).route = d.route := by
  simp [Device.placeGrant]
@[simp] theorem placeGrant_arbiter (d : Device) (m : Member) (g : TxFrame) :
    (d.placeGrant m g).arbiter = d.arbiter := by
  simp [Device.placeGrant]
@[simp] theorem placeGrant_seq (d : Device) (m : Member) (g : TxFrame) : (d.placeGrant m g).seq = d.seq := by
  simp [Device.placeGrant]
@[simp] theorem placeGrant_wear (d : Device) (m : Member) (g : TxFrame) : (d.placeGrant m g).wear = d.wear := by
  simp [Device.placeGrant]
@[simp] theorem placeGrant_nv (d : Device) (m : Member) (g : TxFrame) : (d.placeGrant m g).nv = d.nv := by
  simp [Device.placeGrant]
@[simp] theorem placeGrant_params (d : Device) (m : Member) (g : TxFrame) :
    (d.placeGrant m g).params = d.params := by
  simp [Device.placeGrant]
@[simp] theorem placeGrant_ring (d : Device) (m : Member) (g : TxFrame) : (d.placeGrant m g).ring = d.ring := by
  simp [Device.placeGrant]
@[simp] theorem placeGrant_runClock (d : Device) (m : Member) (g : TxFrame) :
    (d.placeGrant m g).runClock = d.runClock := by
  simp [Device.placeGrant]
@[simp] theorem placeGrant_clockLeft (d : Device) (m : Member) (g : TxFrame) :
    (d.placeGrant m g).clockLeft = d.clockLeft := by
  simp [Device.placeGrant]
@[simp] theorem placeGrant_notices (d : Device) (m : Member) (g : TxFrame) :
    (d.placeGrant m g).notices = d.notices := by
  simp [Device.placeGrant]
@[simp] theorem placeGrant_free (d : Device) (m : Member) (g : TxFrame) : (d.placeGrant m g).free = d.free := by
  simp [Device.placeGrant]

/-! ## handGrants -/

@[simp] theorem handGrants_inReset (d : Device) (c : CycleIn) : (d.handGrants c).inReset = d.inReset := by
  simp [Device.handGrants, Member.all]
@[simp] theorem handGrants_ignLine (d : Device) (c : CycleIn) : (d.handGrants c).ignLine = d.ignLine := by
  simp [Device.handGrants, Member.all]
@[simp] theorem handGrants_doorLine (d : Device) (c : CycleIn) : (d.handGrants c).doorLine = d.doorLine := by
  simp [Device.handGrants, Member.all]
@[simp] theorem handGrants_mode (d : Device) (c : CycleIn) : (d.handGrants c).mode = d.mode := by
  simp [Device.handGrants, Member.all]
@[simp] theorem handGrants_links (d : Device) (c : CycleIn) : (d.handGrants c).links = d.links := by
  simp [Device.handGrants, Member.all]
@[simp] theorem handGrants_svc (d : Device) (c : CycleIn) : (d.handGrants c).svc = d.svc := by
  simp [Device.handGrants, Member.all]
@[simp] theorem handGrants_alloc (d : Device) (c : CycleIn) : (d.handGrants c).alloc = d.alloc := by
  simp [Device.handGrants, Member.all]
@[simp] theorem handGrants_account (d : Device) (c : CycleIn) : (d.handGrants c).account = d.account := by
  simp [Device.handGrants, Member.all]
@[simp] theorem handGrants_route (d : Device) (c : CycleIn) : (d.handGrants c).route = d.route := by
  simp [Device.handGrants, Member.all]
@[simp] theorem handGrants_arbiter (d : Device) (c : CycleIn) : (d.handGrants c).arbiter = d.arbiter := by
  simp [Device.handGrants, Member.all]
@[simp] theorem handGrants_seq (d : Device) (c : CycleIn) : (d.handGrants c).seq = d.seq := by
  simp [Device.handGrants, Member.all]
@[simp] theorem handGrants_wear (d : Device) (c : CycleIn) : (d.handGrants c).wear = d.wear := by
  simp [Device.handGrants, Member.all]
@[simp] theorem handGrants_nv (d : Device) (c : CycleIn) : (d.handGrants c).nv = d.nv := by
  simp [Device.handGrants, Member.all]
@[simp] theorem handGrants_params (d : Device) (c : CycleIn) : (d.handGrants c).params = d.params := by
  simp [Device.handGrants, Member.all]
@[simp] theorem handGrants_ring (d : Device) (c : CycleIn) : (d.handGrants c).ring = d.ring := by
  simp [Device.handGrants, Member.all]
@[simp] theorem handGrants_runClock (d : Device) (c : CycleIn) : (d.handGrants c).runClock = d.runClock := by
  simp [Device.handGrants, Member.all]
@[simp] theorem handGrants_clockLeft (d : Device) (c : CycleIn) : (d.handGrants c).clockLeft = d.clockLeft := by
  simp [Device.handGrants, Member.all]
@[simp] theorem handGrants_notices (d : Device) (c : CycleIn) : (d.handGrants c).notices = d.notices := by
  simp [Device.handGrants, Member.all]
@[simp] theorem handGrants_free (d : Device) (c : CycleIn) : (d.handGrants c).free = d.free := by
  simp [Device.handGrants, Member.all]

/-! ## offerMode -/

@[simp] theorem offerMode_inReset (d : Device) (new : Mode) (c : ModeCause) (n : Nat) :
    (d.offerMode new c n).inReset = d.inReset := by
  simp [Device.offerMode]
@[simp] theorem offerMode_ignLine (d : Device) (new : Mode) (c : ModeCause) (n : Nat) :
    (d.offerMode new c n).ignLine = d.ignLine := by
  simp [Device.offerMode]
@[simp] theorem offerMode_doorLine (d : Device) (new : Mode) (c : ModeCause) (n : Nat) :
    (d.offerMode new c n).doorLine = d.doorLine := by
  simp [Device.offerMode]
@[simp] theorem offerMode_mode (d : Device) (new : Mode) (c : ModeCause) (n : Nat) :
    (d.offerMode new c n).mode = d.mode := by
  simp [Device.offerMode]
@[simp] theorem offerMode_links (d : Device) (new : Mode) (c : ModeCause) (n : Nat) :
    (d.offerMode new c n).links = d.links := by
  simp [Device.offerMode]
@[simp] theorem offerMode_alloc (d : Device) (new : Mode) (c : ModeCause) (n : Nat) :
    (d.offerMode new c n).alloc = d.alloc := by
  simp [Device.offerMode]
@[simp] theorem offerMode_account (d : Device) (new : Mode) (c : ModeCause) (n : Nat) :
    (d.offerMode new c n).account = d.account := by
  simp [Device.offerMode]
@[simp] theorem offerMode_route (d : Device) (new : Mode) (c : ModeCause) (n : Nat) :
    (d.offerMode new c n).route = d.route := by
  simp [Device.offerMode]
@[simp] theorem offerMode_arbiter (d : Device) (new : Mode) (c : ModeCause) (n : Nat) :
    (d.offerMode new c n).arbiter = d.arbiter := by
  simp [Device.offerMode]
@[simp] theorem offerMode_seq (d : Device) (new : Mode) (c : ModeCause) (n : Nat) :
    (d.offerMode new c n).seq = d.seq := by
  simp [Device.offerMode]
@[simp] theorem offerMode_wear (d : Device) (new : Mode) (c : ModeCause) (n : Nat) :
    (d.offerMode new c n).wear = d.wear := by
  simp [Device.offerMode]
@[simp] theorem offerMode_nv (d : Device) (new : Mode) (c : ModeCause) (n : Nat) :
    (d.offerMode new c n).nv = d.nv := by
  simp [Device.offerMode]
@[simp] theorem offerMode_params (d : Device) (new : Mode) (c : ModeCause) (n : Nat) :
    (d.offerMode new c n).params = d.params := by
  simp [Device.offerMode]
@[simp] theorem offerMode_runClock (d : Device) (new : Mode) (c : ModeCause) (n : Nat) :
    (d.offerMode new c n).runClock = d.runClock := by
  simp [Device.offerMode]
@[simp] theorem offerMode_clockLeft (d : Device) (new : Mode) (c : ModeCause) (n : Nat) :
    (d.offerMode new c n).clockLeft = d.clockLeft := by
  simp [Device.offerMode]
@[simp] theorem offerMode_tx_veh (d : Device) (new : Mode) (c : ModeCause) (n : Nat) :
    (d.offerMode new c n).tx.veh = d.tx.veh := by
  simp [Device.offerMode]
@[simp] theorem offerMode_tx_eng (d : Device) (new : Mode) (c : ModeCause) (n : Nat) :
    (d.offerMode new c n).tx.eng = d.tx.eng := by
  simp [Device.offerMode]
@[simp] theorem offerMode_tx_bat (d : Device) (new : Mode) (c : ModeCause) (n : Nat) :
    (d.offerMode new c n).tx.bat = d.tx.bat := by
  simp [Device.offerMode]
@[simp] theorem offerMode_tx_trc (d : Device) (new : Mode) (c : ModeCause) (n : Nat) :
    (d.offerMode new c n).tx.trc = d.tx.trc := by
  simp [Device.offerMode]
@[simp] theorem offerMode_tx_brk (d : Device) (new : Mode) (c : ModeCause) (n : Nat) :
    (d.offerMode new c n).tx.brk = d.tx.brk := by
  simp [Device.offerMode]
@[simp] theorem offerMode_svc_presence (d : Device) (new : Mode) (c : ModeCause) (n : Nat) :
    (d.offerMode new c n).svc.presence = d.svc.presence := by
  simp [Device.offerMode]
@[simp] theorem offerMode_svc_status (d : Device) (new : Mode) (c : ModeCause) (n : Nat) :
    (d.offerMode new c n).svc.status = d.svc.status := by
  simp [Device.offerMode]

/-! ## changeMode -/

@[simp] theorem changeMode_inReset (d : Device) (new : Mode) (c : ModeCause) (n : Nat) :
    (d.changeMode new c n).inReset = d.inReset := by
  simp [Device.changeMode]
@[simp] theorem changeMode_ignLine (d : Device) (new : Mode) (c : ModeCause) (n : Nat) :
    (d.changeMode new c n).ignLine = d.ignLine := by
  simp [Device.changeMode]
@[simp] theorem changeMode_doorLine (d : Device) (new : Mode) (c : ModeCause) (n : Nat) :
    (d.changeMode new c n).doorLine = d.doorLine := by
  simp [Device.changeMode]
@[simp] theorem changeMode_links (d : Device) (new : Mode) (c : ModeCause) (n : Nat) :
    (d.changeMode new c n).links = d.links := by
  simp [Device.changeMode]
@[simp] theorem changeMode_alloc (d : Device) (new : Mode) (c : ModeCause) (n : Nat) :
    (d.changeMode new c n).alloc = d.alloc := by
  simp [Device.changeMode]
@[simp] theorem changeMode_account (d : Device) (new : Mode) (c : ModeCause) (n : Nat) :
    (d.changeMode new c n).account = d.account := by
  simp [Device.changeMode]
@[simp] theorem changeMode_route (d : Device) (new : Mode) (c : ModeCause) (n : Nat) :
    (d.changeMode new c n).route = d.route := by
  simp [Device.changeMode]
@[simp] theorem changeMode_arbiter (d : Device) (new : Mode) (c : ModeCause) (n : Nat) :
    (d.changeMode new c n).arbiter = d.arbiter := by
  simp [Device.changeMode]
@[simp] theorem changeMode_seq (d : Device) (new : Mode) (c : ModeCause) (n : Nat) :
    (d.changeMode new c n).seq = d.seq := by
  simp [Device.changeMode]
@[simp] theorem changeMode_wear (d : Device) (new : Mode) (c : ModeCause) (n : Nat) :
    (d.changeMode new c n).wear = d.wear := by
  simp [Device.changeMode]
@[simp] theorem changeMode_nv (d : Device) (new : Mode) (c : ModeCause) (n : Nat) :
    (d.changeMode new c n).nv = d.nv := by
  simp [Device.changeMode]
@[simp] theorem changeMode_params (d : Device) (new : Mode) (c : ModeCause) (n : Nat) :
    (d.changeMode new c n).params = d.params := by
  simp [Device.changeMode]
@[simp] theorem changeMode_runClock (d : Device) (new : Mode) (c : ModeCause) (n : Nat) :
    (d.changeMode new c n).runClock = d.runClock := by
  simp [Device.changeMode]
@[simp] theorem changeMode_clockLeft (d : Device) (new : Mode) (c : ModeCause) (n : Nat) :
    (d.changeMode new c n).clockLeft = d.clockLeft := by
  simp [Device.changeMode]
@[simp] theorem changeMode_tx_veh (d : Device) (new : Mode) (c : ModeCause) (n : Nat) :
    (d.changeMode new c n).tx.veh = d.tx.veh := by
  simp [Device.changeMode]
@[simp] theorem changeMode_tx_eng (d : Device) (new : Mode) (c : ModeCause) (n : Nat) :
    (d.changeMode new c n).tx.eng = d.tx.eng := by
  simp [Device.changeMode]
@[simp] theorem changeMode_tx_bat (d : Device) (new : Mode) (c : ModeCause) (n : Nat) :
    (d.changeMode new c n).tx.bat = d.tx.bat := by
  simp [Device.changeMode]
@[simp] theorem changeMode_tx_trc (d : Device) (new : Mode) (c : ModeCause) (n : Nat) :
    (d.changeMode new c n).tx.trc = d.tx.trc := by
  simp [Device.changeMode]
@[simp] theorem changeMode_tx_brk (d : Device) (new : Mode) (c : ModeCause) (n : Nat) :
    (d.changeMode new c n).tx.brk = d.tx.brk := by
  simp [Device.changeMode]
@[simp] theorem changeMode_svc_presence (d : Device) (new : Mode) (c : ModeCause) (n : Nat) :
    (d.changeMode new c n).svc.presence = d.svc.presence := by
  simp [Device.changeMode]
@[simp] theorem changeMode_svc_status (d : Device) (new : Mode) (c : ModeCause) (n : Nat) :
    (d.changeMode new c n).svc.status = d.svc.status := by
  simp [Device.changeMode]

/-! ## offerEngine -/

@[simp] theorem offerEngine_inReset (d : Device) (e : EngineEvent) (v w : Nat) :
    (d.offerEngine e v w).inReset = d.inReset := by
  simp [Device.offerEngine]
@[simp] theorem offerEngine_ignLine (d : Device) (e : EngineEvent) (v w : Nat) :
    (d.offerEngine e v w).ignLine = d.ignLine := by
  simp [Device.offerEngine]
@[simp] theorem offerEngine_doorLine (d : Device) (e : EngineEvent) (v w : Nat) :
    (d.offerEngine e v w).doorLine = d.doorLine := by
  simp [Device.offerEngine]
@[simp] theorem offerEngine_mode (d : Device) (e : EngineEvent) (v w : Nat) :
    (d.offerEngine e v w).mode = d.mode := by
  simp [Device.offerEngine]
@[simp] theorem offerEngine_links (d : Device) (e : EngineEvent) (v w : Nat) :
    (d.offerEngine e v w).links = d.links := by
  simp [Device.offerEngine]
@[simp] theorem offerEngine_alloc (d : Device) (e : EngineEvent) (v w : Nat) :
    (d.offerEngine e v w).alloc = d.alloc := by
  simp [Device.offerEngine]
@[simp] theorem offerEngine_account (d : Device) (e : EngineEvent) (v w : Nat) :
    (d.offerEngine e v w).account = d.account := by
  simp [Device.offerEngine]
@[simp] theorem offerEngine_route (d : Device) (e : EngineEvent) (v w : Nat) :
    (d.offerEngine e v w).route = d.route := by
  simp [Device.offerEngine]
@[simp] theorem offerEngine_arbiter (d : Device) (e : EngineEvent) (v w : Nat) :
    (d.offerEngine e v w).arbiter = d.arbiter := by
  simp [Device.offerEngine]
@[simp] theorem offerEngine_seq (d : Device) (e : EngineEvent) (v w : Nat) : (d.offerEngine e v w).seq = d.seq := by
  simp [Device.offerEngine]
@[simp] theorem offerEngine_wear (d : Device) (e : EngineEvent) (v w : Nat) :
    (d.offerEngine e v w).wear = d.wear := by
  simp [Device.offerEngine]
@[simp] theorem offerEngine_nv (d : Device) (e : EngineEvent) (v w : Nat) : (d.offerEngine e v w).nv = d.nv := by
  simp [Device.offerEngine]
@[simp] theorem offerEngine_params (d : Device) (e : EngineEvent) (v w : Nat) :
    (d.offerEngine e v w).params = d.params := by
  simp [Device.offerEngine]
@[simp] theorem offerEngine_runClock (d : Device) (e : EngineEvent) (v w : Nat) :
    (d.offerEngine e v w).runClock = d.runClock := by
  simp [Device.offerEngine]
@[simp] theorem offerEngine_clockLeft (d : Device) (e : EngineEvent) (v w : Nat) :
    (d.offerEngine e v w).clockLeft = d.clockLeft := by
  simp [Device.offerEngine]
@[simp] theorem offerEngine_tx_veh (d : Device) (e : EngineEvent) (v w : Nat) :
    (d.offerEngine e v w).tx.veh = d.tx.veh := by
  simp [Device.offerEngine]
@[simp] theorem offerEngine_tx_eng (d : Device) (e : EngineEvent) (v w : Nat) :
    (d.offerEngine e v w).tx.eng = d.tx.eng := by
  simp [Device.offerEngine]
@[simp] theorem offerEngine_tx_bat (d : Device) (e : EngineEvent) (v w : Nat) :
    (d.offerEngine e v w).tx.bat = d.tx.bat := by
  simp [Device.offerEngine]
@[simp] theorem offerEngine_tx_trc (d : Device) (e : EngineEvent) (v w : Nat) :
    (d.offerEngine e v w).tx.trc = d.tx.trc := by
  simp [Device.offerEngine]
@[simp] theorem offerEngine_tx_brk (d : Device) (e : EngineEvent) (v w : Nat) :
    (d.offerEngine e v w).tx.brk = d.tx.brk := by
  simp [Device.offerEngine]
@[simp] theorem offerEngine_svc_presence (d : Device) (e : EngineEvent) (v w : Nat) :
    (d.offerEngine e v w).svc.presence = d.svc.presence := by
  simp [Device.offerEngine]
@[simp] theorem offerEngine_svc_status (d : Device) (e : EngineEvent) (v w : Nat) :
    (d.offerEngine e v w).svc.status = d.svc.status := by
  simp [Device.offerEngine]

/-! ## offerAccount -/

@[simp] theorem offerAccount_inReset (d : Device) (e : AccountEvent) (v w : Nat) :
    (d.offerAccount e v w).inReset = d.inReset := by
  simp [Device.offerAccount]
@[simp] theorem offerAccount_ignLine (d : Device) (e : AccountEvent) (v w : Nat) :
    (d.offerAccount e v w).ignLine = d.ignLine := by
  simp [Device.offerAccount]
@[simp] theorem offerAccount_doorLine (d : Device) (e : AccountEvent) (v w : Nat) :
    (d.offerAccount e v w).doorLine = d.doorLine := by
  simp [Device.offerAccount]
@[simp] theorem offerAccount_mode (d : Device) (e : AccountEvent) (v w : Nat) :
    (d.offerAccount e v w).mode = d.mode := by
  simp [Device.offerAccount]
@[simp] theorem offerAccount_links (d : Device) (e : AccountEvent) (v w : Nat) :
    (d.offerAccount e v w).links = d.links := by
  simp [Device.offerAccount]
@[simp] theorem offerAccount_alloc (d : Device) (e : AccountEvent) (v w : Nat) :
    (d.offerAccount e v w).alloc = d.alloc := by
  simp [Device.offerAccount]
@[simp] theorem offerAccount_account (d : Device) (e : AccountEvent) (v w : Nat) :
    (d.offerAccount e v w).account = d.account := by
  simp [Device.offerAccount]
@[simp] theorem offerAccount_route (d : Device) (e : AccountEvent) (v w : Nat) :
    (d.offerAccount e v w).route = d.route := by
  simp [Device.offerAccount]
@[simp] theorem offerAccount_arbiter (d : Device) (e : AccountEvent) (v w : Nat) :
    (d.offerAccount e v w).arbiter = d.arbiter := by
  simp [Device.offerAccount]
@[simp] theorem offerAccount_seq (d : Device) (e : AccountEvent) (v w : Nat) :
    (d.offerAccount e v w).seq = d.seq := by
  simp [Device.offerAccount]
@[simp] theorem offerAccount_wear (d : Device) (e : AccountEvent) (v w : Nat) :
    (d.offerAccount e v w).wear = d.wear := by
  simp [Device.offerAccount]
@[simp] theorem offerAccount_nv (d : Device) (e : AccountEvent) (v w : Nat) : (d.offerAccount e v w).nv = d.nv := by
  simp [Device.offerAccount]
@[simp] theorem offerAccount_params (d : Device) (e : AccountEvent) (v w : Nat) :
    (d.offerAccount e v w).params = d.params := by
  simp [Device.offerAccount]
@[simp] theorem offerAccount_runClock (d : Device) (e : AccountEvent) (v w : Nat) :
    (d.offerAccount e v w).runClock = d.runClock := by
  simp [Device.offerAccount]
@[simp] theorem offerAccount_clockLeft (d : Device) (e : AccountEvent) (v w : Nat) :
    (d.offerAccount e v w).clockLeft = d.clockLeft := by
  simp [Device.offerAccount]
@[simp] theorem offerAccount_tx_veh (d : Device) (e : AccountEvent) (v w : Nat) :
    (d.offerAccount e v w).tx.veh = d.tx.veh := by
  simp [Device.offerAccount]
@[simp] theorem offerAccount_tx_eng (d : Device) (e : AccountEvent) (v w : Nat) :
    (d.offerAccount e v w).tx.eng = d.tx.eng := by
  simp [Device.offerAccount]
@[simp] theorem offerAccount_tx_bat (d : Device) (e : AccountEvent) (v w : Nat) :
    (d.offerAccount e v w).tx.bat = d.tx.bat := by
  simp [Device.offerAccount]
@[simp] theorem offerAccount_tx_trc (d : Device) (e : AccountEvent) (v w : Nat) :
    (d.offerAccount e v w).tx.trc = d.tx.trc := by
  simp [Device.offerAccount]
@[simp] theorem offerAccount_tx_brk (d : Device) (e : AccountEvent) (v w : Nat) :
    (d.offerAccount e v w).tx.brk = d.tx.brk := by
  simp [Device.offerAccount]
@[simp] theorem offerAccount_svc_presence (d : Device) (e : AccountEvent) (v w : Nat) :
    (d.offerAccount e v w).svc.presence = d.svc.presence := by
  simp [Device.offerAccount]
@[simp] theorem offerAccount_svc_status (d : Device) (e : AccountEvent) (v w : Nat) :
    (d.offerAccount e v w).svc.status = d.svc.status := by
  simp [Device.offerAccount]

end Sys2Proof.Machine
end

