-- ==== Sys2Proof/Laws/Control.lean ====
section
/-! SUPPORT. What the mode controller, the arbiter and the sequencer leave: the lines, the account, the wear table, the
non-volatile store, the configuration, the run clock, the service timers, and the route with its zones. -/

namespace Sys2Proof.Machine

/-! ## enterPark -/

@[simp] theorem enterPark_inReset (d : Device) (c : ModeCause) (n : Nat) :
    (d.enterPark c n).inReset = d.inReset := by
  simp [Device.enterPark]
@[simp] theorem enterPark_ignLine (d : Device) (c : ModeCause) (n : Nat) :
    (d.enterPark c n).ignLine = d.ignLine := by
  simp [Device.enterPark]
@[simp] theorem enterPark_doorLine (d : Device) (c : ModeCause) (n : Nat) :
    (d.enterPark c n).doorLine = d.doorLine := by
  simp [Device.enterPark]
@[simp] theorem enterPark_account (d : Device) (c : ModeCause) (n : Nat) :
    (d.enterPark c n).account = d.account := by
  simp [Device.enterPark]
@[simp] theorem enterPark_wear (d : Device) (c : ModeCause) (n : Nat) : (d.enterPark c n).wear = d.wear := by
  simp [Device.enterPark]
@[simp] theorem enterPark_nv (d : Device) (c : ModeCause) (n : Nat) : (d.enterPark c n).nv = d.nv := by
  simp [Device.enterPark]
@[simp] theorem enterPark_params (d : Device) (c : ModeCause) (n : Nat) : (d.enterPark c n).params = d.params := by
  simp [Device.enterPark]
@[simp] theorem enterPark_runClock (d : Device) (c : ModeCause) (n : Nat) :
    (d.enterPark c n).runClock = d.runClock := by
  simp [Device.enterPark]
@[simp] theorem enterPark_clockLeft (d : Device) (c : ModeCause) (n : Nat) :
    (d.enterPark c n).clockLeft = d.clockLeft := by
  simp [Device.enterPark]
@[simp] theorem enterPark_svc_presence (d : Device) (c : ModeCause) (n : Nat) :
    (d.enterPark c n).svc.presence = d.svc.presence := by
  simp [Device.enterPark]
@[simp] theorem enterPark_svc_status (d : Device) (c : ModeCause) (n : Nat) :
    (d.enterPark c n).svc.status = d.svc.status := by
  simp [Device.enterPark]
@[simp] theorem enterPark_route_dRoute (d : Device) (c : ModeCause) (n : Nat) :
    (d.enterPark c n).route.dRoute = d.route.dRoute := by
  simp [Device.enterPark]
@[simp] theorem enterPark_route_zones (d : Device) (c : ModeCause) (n : Nat) :
    (d.enterPark c n).route.zones = d.route.zones := by
  simp [Device.enterPark]
@[simp] theorem enterPark_route_eRes (d : Device) (c : ModeCause) (n : Nat) :
    (d.enterPark c n).route.eRes = d.route.eRes := by
  simp [Device.enterPark]

/-! ## checkPark -/

@[simp] theorem checkPark_inReset (d : Device) : d.checkPark.inReset = d.inReset := by
  unfold Device.checkPark; split <;> simp
@[simp] theorem checkPark_ignLine (d : Device) : d.checkPark.ignLine = d.ignLine := by
  unfold Device.checkPark; split <;> simp
@[simp] theorem checkPark_doorLine (d : Device) : d.checkPark.doorLine = d.doorLine := by
  unfold Device.checkPark; split <;> simp
@[simp] theorem checkPark_account (d : Device) : d.checkPark.account = d.account := by
  unfold Device.checkPark; split <;> simp
@[simp] theorem checkPark_wear (d : Device) : d.checkPark.wear = d.wear := by
  unfold Device.checkPark; split <;> simp
@[simp] theorem checkPark_nv (d : Device) : d.checkPark.nv = d.nv := by
  unfold Device.checkPark; split <;> simp
@[simp] theorem checkPark_params (d : Device) : d.checkPark.params = d.params := by
  unfold Device.checkPark; split <;> simp
@[simp] theorem checkPark_runClock (d : Device) : d.checkPark.runClock = d.runClock := by
  unfold Device.checkPark; split <;> simp
@[simp] theorem checkPark_clockLeft (d : Device) : d.checkPark.clockLeft = d.clockLeft := by
  unfold Device.checkPark; split <;> simp
@[simp] theorem checkPark_svc_presence (d : Device) : d.checkPark.svc.presence = d.svc.presence := by
  unfold Device.checkPark; split <;> simp
@[simp] theorem checkPark_svc_status (d : Device) : d.checkPark.svc.status = d.svc.status := by
  unfold Device.checkPark; split <;> simp
@[simp] theorem checkPark_route_dRoute (d : Device) : d.checkPark.route.dRoute = d.route.dRoute := by
  unfold Device.checkPark; split <;> simp
@[simp] theorem checkPark_route_zones (d : Device) : d.checkPark.route.zones = d.route.zones := by
  unfold Device.checkPark; split <;> simp
@[simp] theorem checkPark_route_eRes (d : Device) : d.checkPark.route.eRes = d.route.eRes := by
  unfold Device.checkPark; split <;> simp

/-! ## seqTo -/

@[simp] theorem seqTo_inReset (d : Device) (q : Sequencer) : (d.seqTo q).inReset = d.inReset := by
  simp [Device.seqTo]
@[simp] theorem seqTo_ignLine (d : Device) (q : Sequencer) : (d.seqTo q).ignLine = d.ignLine := by
  simp [Device.seqTo]
@[simp] theorem seqTo_doorLine (d : Device) (q : Sequencer) : (d.seqTo q).doorLine = d.doorLine := by
  simp [Device.seqTo]
@[simp] theorem seqTo_account (d : Device) (q : Sequencer) : (d.seqTo q).account = d.account := by
  simp [Device.seqTo]
@[simp] theorem seqTo_wear (d : Device) (q : Sequencer) : (d.seqTo q).wear = d.wear := by
  simp [Device.seqTo]
@[simp] theorem seqTo_nv (d : Device) (q : Sequencer) : (d.seqTo q).nv = d.nv := by
  simp [Device.seqTo]
@[simp] theorem seqTo_params (d : Device) (q : Sequencer) : (d.seqTo q).params = d.params := by
  simp [Device.seqTo]
@[simp] theorem seqTo_runClock (d : Device) (q : Sequencer) : (d.seqTo q).runClock = d.runClock := by
  simp [Device.seqTo]
@[simp] theorem seqTo_clockLeft (d : Device) (q : Sequencer) : (d.seqTo q).clockLeft = d.clockLeft := by
  simp [Device.seqTo]
@[simp] theorem seqTo_svc_presence (d : Device) (q : Sequencer) : (d.seqTo q).svc.presence = d.svc.presence := by
  simp [Device.seqTo]
@[simp] theorem seqTo_svc_status (d : Device) (q : Sequencer) : (d.seqTo q).svc.status = d.svc.status := by
  simp [Device.seqTo]
@[simp] theorem seqTo_route_dRoute (d : Device) (q : Sequencer) : (d.seqTo q).route.dRoute = d.route.dRoute := by
  simp [Device.seqTo]
@[simp] theorem seqTo_route_zones (d : Device) (q : Sequencer) : (d.seqTo q).route.zones = d.route.zones := by
  simp [Device.seqTo]
@[simp] theorem seqTo_route_eRes (d : Device) (q : Sequencer) : (d.seqTo q).route.eRes = d.route.eRes := by
  simp [Device.seqTo]

/-! ## toStopping -/

@[simp] theorem toStopping_inReset (d : Device) : d.toStopping.inReset = d.inReset := by
  simp [Device.toStopping]
@[simp] theorem toStopping_ignLine (d : Device) : d.toStopping.ignLine = d.ignLine := by
  simp [Device.toStopping]
@[simp] theorem toStopping_doorLine (d : Device) : d.toStopping.doorLine = d.doorLine := by
  simp [Device.toStopping]
@[simp] theorem toStopping_account (d : Device) : d.toStopping.account = d.account := by
  simp [Device.toStopping]
@[simp] theorem toStopping_wear (d : Device) : d.toStopping.wear = d.wear := by
  simp [Device.toStopping]
@[simp] theorem toStopping_nv (d : Device) : d.toStopping.nv = d.nv := by
  simp [Device.toStopping]
@[simp] theorem toStopping_params (d : Device) : d.toStopping.params = d.params := by
  simp [Device.toStopping]
@[simp] theorem toStopping_runClock (d : Device) : d.toStopping.runClock = d.runClock := by
  simp [Device.toStopping]
@[simp] theorem toStopping_clockLeft (d : Device) : d.toStopping.clockLeft = d.clockLeft := by
  simp [Device.toStopping]
@[simp] theorem toStopping_svc_presence (d : Device) : d.toStopping.svc.presence = d.svc.presence := by
  simp [Device.toStopping]
@[simp] theorem toStopping_svc_status (d : Device) : d.toStopping.svc.status = d.svc.status := by
  simp [Device.toStopping]
@[simp] theorem toStopping_route_dRoute (d : Device) : d.toStopping.route.dRoute = d.route.dRoute := by
  simp [Device.toStopping]
@[simp] theorem toStopping_route_zones (d : Device) : d.toStopping.route.zones = d.route.zones := by
  simp [Device.toStopping]
@[simp] theorem toStopping_route_eRes (d : Device) : d.toStopping.route.eRes = d.route.eRes := by
  simp [Device.toStopping]

/-! ## toCooldown -/

@[simp] theorem toCooldown_inReset (d : Device) : d.toCooldown.inReset = d.inReset := by
  unfold Device.toCooldown; dsimp only; split <;> simp
@[simp] theorem toCooldown_ignLine (d : Device) : d.toCooldown.ignLine = d.ignLine := by
  unfold Device.toCooldown; dsimp only; split <;> simp
@[simp] theorem toCooldown_doorLine (d : Device) : d.toCooldown.doorLine = d.doorLine := by
  unfold Device.toCooldown; dsimp only; split <;> simp
@[simp] theorem toCooldown_account (d : Device) : d.toCooldown.account = d.account := by
  unfold Device.toCooldown; dsimp only; split <;> simp
@[simp] theorem toCooldown_wear (d : Device) : d.toCooldown.wear = d.wear := by
  unfold Device.toCooldown; dsimp only; split <;> simp
@[simp] theorem toCooldown_nv (d : Device) : d.toCooldown.nv = d.nv := by
  unfold Device.toCooldown; dsimp only; split <;> simp
@[simp] theorem toCooldown_params (d : Device) : d.toCooldown.params = d.params := by
  unfold Device.toCooldown; dsimp only; split <;> simp
@[simp] theorem toCooldown_runClock (d : Device) : d.toCooldown.runClock = d.runClock := by
  unfold Device.toCooldown; dsimp only; split <;> simp
@[simp] theorem toCooldown_clockLeft (d : Device) : d.toCooldown.clockLeft = d.clockLeft := by
  unfold Device.toCooldown; dsimp only; split <;> simp
@[simp] theorem toCooldown_svc_presence (d : Device) : d.toCooldown.svc.presence = d.svc.presence := by
  unfold Device.toCooldown; dsimp only; split <;> simp
@[simp] theorem toCooldown_svc_status (d : Device) : d.toCooldown.svc.status = d.svc.status := by
  unfold Device.toCooldown; dsimp only; split <;> simp
@[simp] theorem toCooldown_route_dRoute (d : Device) : d.toCooldown.route.dRoute = d.route.dRoute := by
  unfold Device.toCooldown; dsimp only; split <;> simp
@[simp] theorem toCooldown_route_zones (d : Device) : d.toCooldown.route.zones = d.route.zones := by
  unfold Device.toCooldown; dsimp only; split <;> simp
@[simp] theorem toCooldown_route_eRes (d : Device) : d.toCooldown.route.eRes = d.route.eRes := by
  unfold Device.toCooldown; dsimp only; split <;> simp

/-! ## toRunningAgain -/

@[simp] theorem toRunningAgain_inReset (d : Device) : d.toRunningAgain.inReset = d.inReset := by
  simp [Device.toRunningAgain]
@[simp] theorem toRunningAgain_ignLine (d : Device) : d.toRunningAgain.ignLine = d.ignLine := by
  simp [Device.toRunningAgain]
@[simp] theorem toRunningAgain_doorLine (d : Device) : d.toRunningAgain.doorLine = d.doorLine := by
  simp [Device.toRunningAgain]
@[simp] theorem toRunningAgain_account (d : Device) : d.toRunningAgain.account = d.account := by
  simp [Device.toRunningAgain]
@[simp] theorem toRunningAgain_wear (d : Device) : d.toRunningAgain.wear = d.wear := by
  simp [Device.toRunningAgain]
@[simp] theorem toRunningAgain_nv (d : Device) : d.toRunningAgain.nv = d.nv := by
  simp [Device.toRunningAgain]
@[simp] theorem toRunningAgain_params (d : Device) : d.toRunningAgain.params = d.params := by
  simp [Device.toRunningAgain]
@[simp] theorem toRunningAgain_runClock (d : Device) : d.toRunningAgain.runClock = d.runClock := by
  simp [Device.toRunningAgain]
@[simp] theorem toRunningAgain_clockLeft (d : Device) : d.toRunningAgain.clockLeft = d.clockLeft := by
  simp [Device.toRunningAgain]
@[simp] theorem toRunningAgain_svc_presence (d : Device) : d.toRunningAgain.svc.presence = d.svc.presence := by
  simp [Device.toRunningAgain]
@[simp] theorem toRunningAgain_svc_status (d : Device) : d.toRunningAgain.svc.status = d.svc.status := by
  simp [Device.toRunningAgain]
@[simp] theorem toRunningAgain_route_dRoute (d : Device) : d.toRunningAgain.route.dRoute = d.route.dRoute := by
  simp [Device.toRunningAgain]
@[simp] theorem toRunningAgain_route_zones (d : Device) : d.toRunningAgain.route.zones = d.route.zones := by
  simp [Device.toRunningAgain]
@[simp] theorem toRunningAgain_route_eRes (d : Device) : d.toRunningAgain.route.eRes = d.route.eRes := by
  simp [Device.toRunningAgain]

/-! ## tryStart -/

@[simp] theorem tryStart_inReset (d : Device) : d.tryStart.inReset = d.inReset := by
  unfold Device.tryStart; dsimp only; split <;> simp
@[simp] theorem tryStart_ignLine (d : Device) : d.tryStart.ignLine = d.ignLine := by
  unfold Device.tryStart; dsimp only; split <;> simp
@[simp] theorem tryStart_doorLine (d : Device) : d.tryStart.doorLine = d.doorLine := by
  unfold Device.tryStart; dsimp only; split <;> simp
@[simp] theorem tryStart_account (d : Device) : d.tryStart.account = d.account := by
  unfold Device.tryStart; dsimp only; split <;> simp
@[simp] theorem tryStart_wear (d : Device) : d.tryStart.wear = d.wear := by
  unfold Device.tryStart; dsimp only; split <;> simp
@[simp] theorem tryStart_nv (d : Device) : d.tryStart.nv = d.nv := by
  unfold Device.tryStart; dsimp only; split <;> simp
@[simp] theorem tryStart_params (d : Device) : d.tryStart.params = d.params := by
  unfold Device.tryStart; dsimp only; split <;> simp
@[simp] theorem tryStart_runClock (d : Device) : d.tryStart.runClock = d.runClock := by
  unfold Device.tryStart; dsimp only; split <;> simp
@[simp] theorem tryStart_clockLeft (d : Device) : d.tryStart.clockLeft = d.clockLeft := by
  unfold Device.tryStart; dsimp only; split <;> simp
@[simp] theorem tryStart_svc_presence (d : Device) : d.tryStart.svc.presence = d.svc.presence := by
  unfold Device.tryStart; dsimp only; split <;> simp
@[simp] theorem tryStart_svc_status (d : Device) : d.tryStart.svc.status = d.svc.status := by
  unfold Device.tryStart; dsimp only; split <;> simp
@[simp] theorem tryStart_route_dRoute (d : Device) : d.tryStart.route.dRoute = d.route.dRoute := by
  unfold Device.tryStart; dsimp only; split <;> simp
@[simp] theorem tryStart_route_zones (d : Device) : d.tryStart.route.zones = d.route.zones := by
  unfold Device.tryStart; dsimp only; split <;> simp
@[simp] theorem tryStart_route_eRes (d : Device) : d.tryStart.route.eRes = d.route.eRes := by
  unfold Device.tryStart; dsimp only; split <;> simp

/-! ## abortCrank -/

@[simp] theorem abortCrank_inReset (d : Device) (n : Nat) : (d.abortCrank n).inReset = d.inReset := by
  simp [Device.abortCrank]
@[simp] theorem abortCrank_ignLine (d : Device) (n : Nat) : (d.abortCrank n).ignLine = d.ignLine := by
  simp [Device.abortCrank]
@[simp] theorem abortCrank_doorLine (d : Device) (n : Nat) : (d.abortCrank n).doorLine = d.doorLine := by
  simp [Device.abortCrank]
@[simp] theorem abortCrank_account (d : Device) (n : Nat) : (d.abortCrank n).account = d.account := by
  simp [Device.abortCrank]
@[simp] theorem abortCrank_wear (d : Device) (n : Nat) : (d.abortCrank n).wear = d.wear := by
  simp [Device.abortCrank]
@[simp] theorem abortCrank_nv (d : Device) (n : Nat) : (d.abortCrank n).nv = d.nv := by
  simp [Device.abortCrank]
@[simp] theorem abortCrank_params (d : Device) (n : Nat) : (d.abortCrank n).params = d.params := by
  simp [Device.abortCrank]
@[simp] theorem abortCrank_runClock (d : Device) (n : Nat) : (d.abortCrank n).runClock = d.runClock := by
  simp [Device.abortCrank]
@[simp] theorem abortCrank_clockLeft (d : Device) (n : Nat) : (d.abortCrank n).clockLeft = d.clockLeft := by
  simp [Device.abortCrank]
@[simp] theorem abortCrank_svc_presence (d : Device) (n : Nat) :
    (d.abortCrank n).svc.presence = d.svc.presence := by
  simp [Device.abortCrank]
@[simp] theorem abortCrank_svc_status (d : Device) (n : Nat) : (d.abortCrank n).svc.status = d.svc.status := by
  simp [Device.abortCrank]
@[simp] theorem abortCrank_route_dRoute (d : Device) (n : Nat) :
    (d.abortCrank n).route.dRoute = d.route.dRoute := by
  simp [Device.abortCrank]
@[simp] theorem abortCrank_route_zones (d : Device) (n : Nat) : (d.abortCrank n).route.zones = d.route.zones := by
  simp [Device.abortCrank]
@[simp] theorem abortCrank_route_eRes (d : Device) (n : Nat) : (d.abortCrank n).route.eRes = d.route.eRes := by
  simp [Device.abortCrank]

/-! ## followDirective -/

@[simp] theorem followDirective_inReset (d : Device) : d.followDirective.inReset = d.inReset := by
  unfold Device.followDirective; repeat' split
  all_goals simp
@[simp] theorem followDirective_ignLine (d : Device) : d.followDirective.ignLine = d.ignLine := by
  unfold Device.followDirective; repeat' split
  all_goals simp
@[simp] theorem followDirective_doorLine (d : Device) : d.followDirective.doorLine = d.doorLine := by
  unfold Device.followDirective; repeat' split
  all_goals simp
@[simp] theorem followDirective_account (d : Device) : d.followDirective.account = d.account := by
  unfold Device.followDirective; repeat' split
  all_goals simp
@[simp] theorem followDirective_wear (d : Device) : d.followDirective.wear = d.wear := by
  unfold Device.followDirective; repeat' split
  all_goals simp
@[simp] theorem followDirective_nv (d : Device) : d.followDirective.nv = d.nv := by
  unfold Device.followDirective; repeat' split
  all_goals simp
@[simp] theorem followDirective_params (d : Device) : d.followDirective.params = d.params := by
  unfold Device.followDirective; repeat' split
  all_goals simp
@[simp] theorem followDirective_runClock (d : Device) : d.followDirective.runClock = d.runClock := by
  unfold Device.followDirective; repeat' split
  all_goals simp
@[simp] theorem followDirective_clockLeft (d : Device) : d.followDirective.clockLeft = d.clockLeft := by
  unfold Device.followDirective; repeat' split
  all_goals simp
@[simp] theorem followDirective_svc_presence (d : Device) : d.followDirective.svc.presence = d.svc.presence := by
  unfold Device.followDirective; repeat' split
  all_goals simp
@[simp] theorem followDirective_svc_status (d : Device) : d.followDirective.svc.status = d.svc.status := by
  unfold Device.followDirective; repeat' split
  all_goals simp
@[simp] theorem followDirective_route_dRoute (d : Device) : d.followDirective.route.dRoute = d.route.dRoute := by
  unfold Device.followDirective; repeat' split
  all_goals simp
@[simp] theorem followDirective_route_zones (d : Device) : d.followDirective.route.zones = d.route.zones := by
  unfold Device.followDirective; repeat' split
  all_goals simp
@[simp] theorem followDirective_route_eRes (d : Device) : d.followDirective.route.eRes = d.route.eRes := by
  unfold Device.followDirective; repeat' split
  all_goals simp

/-! ## policyCheck -/

@[simp] theorem policyCheck_inReset (d : Device) : d.policyCheck.inReset = d.inReset := by
  unfold Device.policyCheck; repeat' split
  all_goals simp
@[simp] theorem policyCheck_ignLine (d : Device) : d.policyCheck.ignLine = d.ignLine := by
  unfold Device.policyCheck; repeat' split
  all_goals simp
@[simp] theorem policyCheck_doorLine (d : Device) : d.policyCheck.doorLine = d.doorLine := by
  unfold Device.policyCheck; repeat' split
  all_goals simp
@[simp] theorem policyCheck_account (d : Device) : d.policyCheck.account = d.account := by
  unfold Device.policyCheck; repeat' split
  all_goals simp
@[simp] theorem policyCheck_wear (d : Device) : d.policyCheck.wear = d.wear := by
  unfold Device.policyCheck; repeat' split
  all_goals simp
@[simp] theorem policyCheck_nv (d : Device) : d.policyCheck.nv = d.nv := by
  unfold Device.policyCheck; repeat' split
  all_goals simp
@[simp] theorem policyCheck_params (d : Device) : d.policyCheck.params = d.params := by
  unfold Device.policyCheck; repeat' split
  all_goals simp
@[simp] theorem policyCheck_runClock (d : Device) : d.policyCheck.runClock = d.runClock := by
  unfold Device.policyCheck; repeat' split
  all_goals simp
@[simp] theorem policyCheck_clockLeft (d : Device) : d.policyCheck.clockLeft = d.clockLeft := by
  unfold Device.policyCheck; repeat' split
  all_goals simp
@[simp] theorem policyCheck_svc_presence (d : Device) : d.policyCheck.svc.presence = d.svc.presence := by
  unfold Device.policyCheck; repeat' split
  all_goals simp
@[simp] theorem policyCheck_svc_status (d : Device) : d.policyCheck.svc.status = d.svc.status := by
  unfold Device.policyCheck; repeat' split
  all_goals simp
@[simp] theorem policyCheck_route_dRoute (d : Device) : d.policyCheck.route.dRoute = d.route.dRoute := by
  unfold Device.policyCheck; repeat' split
  all_goals simp
@[simp] theorem policyCheck_route_zones (d : Device) : d.policyCheck.route.zones = d.route.zones := by
  unfold Device.policyCheck; repeat' split
  all_goals simp
@[simp] theorem policyCheck_route_eRes (d : Device) : d.policyCheck.route.eRes = d.route.eRes := by
  unfold Device.policyCheck; repeat' split
  all_goals simp

/-! ## adopt -/

@[simp] theorem adopt_inReset (d : Device) : d.adopt.inReset = d.inReset := by
  simp [Device.adopt]
@[simp] theorem adopt_ignLine (d : Device) : d.adopt.ignLine = d.ignLine := by
  simp [Device.adopt]
@[simp] theorem adopt_doorLine (d : Device) : d.adopt.doorLine = d.doorLine := by
  simp [Device.adopt]
@[simp] theorem adopt_account (d : Device) : d.adopt.account = d.account := by
  simp [Device.adopt]
@[simp] theorem adopt_wear (d : Device) : d.adopt.wear = d.wear := by
  simp [Device.adopt]
@[simp] theorem adopt_nv (d : Device) : d.adopt.nv = d.nv := by
  simp [Device.adopt]
@[simp] theorem adopt_params (d : Device) : d.adopt.params = d.params := by
  simp [Device.adopt]
@[simp] theorem adopt_runClock (d : Device) : d.adopt.runClock = d.runClock := by
  simp [Device.adopt]
@[simp] theorem adopt_clockLeft (d : Device) : d.adopt.clockLeft = d.clockLeft := by
  simp [Device.adopt]
@[simp] theorem adopt_svc_presence (d : Device) : d.adopt.svc.presence = d.svc.presence := by
  simp [Device.adopt]
@[simp] theorem adopt_svc_status (d : Device) : d.adopt.svc.status = d.svc.status := by
  simp [Device.adopt]
@[simp] theorem adopt_route_dRoute (d : Device) : d.adopt.route.dRoute = d.route.dRoute := by
  simp [Device.adopt]
@[simp] theorem adopt_route_zones (d : Device) : d.adopt.route.zones = d.route.zones := by
  simp [Device.adopt]
@[simp] theorem adopt_route_eRes (d : Device) : d.adopt.route.eRes = d.route.eRes := by
  simp [Device.adopt]

/-! ## stall -/

@[simp] theorem stall_inReset (d : Device) : d.stall.inReset = d.inReset := by
  simp [Device.stall]
@[simp] theorem stall_ignLine (d : Device) : d.stall.ignLine = d.ignLine := by
  simp [Device.stall]
@[simp] theorem stall_doorLine (d : Device) : d.stall.doorLine = d.doorLine := by
  simp [Device.stall]
@[simp] theorem stall_account (d : Device) : d.stall.account = d.account := by
  simp [Device.stall]
@[simp] theorem stall_wear (d : Device) : d.stall.wear = d.wear := by
  simp [Device.stall]
@[simp] theorem stall_nv (d : Device) : d.stall.nv = d.nv := by
  simp [Device.stall]
@[simp] theorem stall_params (d : Device) : d.stall.params = d.params := by
  simp [Device.stall]
@[simp] theorem stall_runClock (d : Device) : d.stall.runClock = d.runClock := by
  simp [Device.stall]
@[simp] theorem stall_clockLeft (d : Device) : d.stall.clockLeft = d.clockLeft := by
  simp [Device.stall]
@[simp] theorem stall_svc_presence (d : Device) : d.stall.svc.presence = d.svc.presence := by
  simp [Device.stall]
@[simp] theorem stall_svc_status (d : Device) : d.stall.svc.status = d.svc.status := by
  simp [Device.stall]
@[simp] theorem stall_route_dRoute (d : Device) : d.stall.route.dRoute = d.route.dRoute := by
  simp [Device.stall]
@[simp] theorem stall_route_zones (d : Device) : d.stall.route.zones = d.route.zones := by
  simp [Device.stall]
@[simp] theorem stall_route_eRes (d : Device) : d.stall.route.eRes = d.route.eRes := by
  simp [Device.stall]

/-! ## stopCompletes -/

@[simp] theorem stopCompletes_inReset (d : Device) : d.stopCompletes.inReset = d.inReset := by
  simp [Device.stopCompletes]
@[simp] theorem stopCompletes_ignLine (d : Device) : d.stopCompletes.ignLine = d.ignLine := by
  simp [Device.stopCompletes]
@[simp] theorem stopCompletes_doorLine (d : Device) : d.stopCompletes.doorLine = d.doorLine := by
  simp [Device.stopCompletes]
@[simp] theorem stopCompletes_account (d : Device) : d.stopCompletes.account = d.account := by
  simp [Device.stopCompletes]
@[simp] theorem stopCompletes_wear (d : Device) : d.stopCompletes.wear = d.wear := by
  simp [Device.stopCompletes]
@[simp] theorem stopCompletes_nv (d : Device) : d.stopCompletes.nv = d.nv := by
  simp [Device.stopCompletes]
@[simp] theorem stopCompletes_params (d : Device) : d.stopCompletes.params = d.params := by
  simp [Device.stopCompletes]
@[simp] theorem stopCompletes_runClock (d : Device) : d.stopCompletes.runClock = d.runClock := by
  simp [Device.stopCompletes]
@[simp] theorem stopCompletes_clockLeft (d : Device) : d.stopCompletes.clockLeft = d.clockLeft := by
  simp [Device.stopCompletes]
@[simp] theorem stopCompletes_svc_presence (d : Device) : d.stopCompletes.svc.presence = d.svc.presence := by
  simp [Device.stopCompletes]
@[simp] theorem stopCompletes_svc_status (d : Device) : d.stopCompletes.svc.status = d.svc.status := by
  simp [Device.stopCompletes]
@[simp] theorem stopCompletes_route_dRoute (d : Device) : d.stopCompletes.route.dRoute = d.route.dRoute := by
  simp [Device.stopCompletes]
@[simp] theorem stopCompletes_route_zones (d : Device) : d.stopCompletes.route.zones = d.route.zones := by
  simp [Device.stopCompletes]
@[simp] theorem stopCompletes_route_eRes (d : Device) : d.stopCompletes.route.eRes = d.route.eRes := by
  simp [Device.stopCompletes]

/-! ## startCompletes -/

@[simp] theorem startCompletes_inReset (d : Device) : d.startCompletes.inReset = d.inReset := by
  simp [Device.startCompletes]
@[simp] theorem startCompletes_ignLine (d : Device) : d.startCompletes.ignLine = d.ignLine := by
  simp [Device.startCompletes]
@[simp] theorem startCompletes_doorLine (d : Device) : d.startCompletes.doorLine = d.doorLine := by
  simp [Device.startCompletes]
@[simp] theorem startCompletes_account (d : Device) : d.startCompletes.account = d.account := by
  simp [Device.startCompletes]
@[simp] theorem startCompletes_params (d : Device) : d.startCompletes.params = d.params := by
  simp [Device.startCompletes]
@[simp] theorem startCompletes_runClock (d : Device) : d.startCompletes.runClock = d.runClock := by
  simp [Device.startCompletes]
@[simp] theorem startCompletes_clockLeft (d : Device) : d.startCompletes.clockLeft = d.clockLeft := by
  simp [Device.startCompletes]
@[simp] theorem startCompletes_svc_presence (d : Device) : d.startCompletes.svc.presence = d.svc.presence := by
  simp [Device.startCompletes]
@[simp] theorem startCompletes_svc_status (d : Device) : d.startCompletes.svc.status = d.svc.status := by
  simp [Device.startCompletes]
@[simp] theorem startCompletes_route_dRoute (d : Device) : d.startCompletes.route.dRoute = d.route.dRoute := by
  simp [Device.startCompletes]
@[simp] theorem startCompletes_route_zones (d : Device) : d.startCompletes.route.zones = d.route.zones := by
  simp [Device.startCompletes]
@[simp] theorem startCompletes_route_eRes (d : Device) : d.startCompletes.route.eRes = d.route.eRes := by
  simp [Device.startCompletes]

/-! ## engineReport -/

@[simp] theorem engineReport_inReset (d : Device) (e : EngineState) : (d.engineReport e).inReset = d.inReset := by
  unfold Device.engineReport; dsimp only; repeat' split
  all_goals simp
@[simp] theorem engineReport_ignLine (d : Device) (e : EngineState) : (d.engineReport e).ignLine = d.ignLine := by
  unfold Device.engineReport; dsimp only; repeat' split
  all_goals simp
@[simp] theorem engineReport_doorLine (d : Device) (e : EngineState) :
    (d.engineReport e).doorLine = d.doorLine := by
  unfold Device.engineReport; dsimp only; repeat' split
  all_goals simp
@[simp] theorem engineReport_account (d : Device) (e : EngineState) : (d.engineReport e).account = d.account := by
  unfold Device.engineReport; dsimp only; repeat' split
  all_goals simp
@[simp] theorem engineReport_params (d : Device) (e : EngineState) : (d.engineReport e).params = d.params := by
  unfold Device.engineReport; dsimp only; repeat' split
  all_goals simp
@[simp] theorem engineReport_runClock (d : Device) (e : EngineState) :
    (d.engineReport e).runClock = d.runClock := by
  unfold Device.engineReport; dsimp only; repeat' split
  all_goals simp
@[simp] theorem engineReport_clockLeft (d : Device) (e : EngineState) :
    (d.engineReport e).clockLeft = d.clockLeft := by
  unfold Device.engineReport; dsimp only; repeat' split
  all_goals simp
@[simp] theorem engineReport_svc_presence (d : Device) (e : EngineState) :
    (d.engineReport e).svc.presence = d.svc.presence := by
  unfold Device.engineReport; dsimp only; repeat' split
  all_goals simp
@[simp] theorem engineReport_svc_status (d : Device) (e : EngineState) :
    (d.engineReport e).svc.status = d.svc.status := by
  unfold Device.engineReport; dsimp only; repeat' split
  all_goals simp
@[simp] theorem engineReport_route_dRoute (d : Device) (e : EngineState) :
    (d.engineReport e).route.dRoute = d.route.dRoute := by
  unfold Device.engineReport; dsimp only; repeat' split
  all_goals simp
@[simp] theorem engineReport_route_zones (d : Device) (e : EngineState) :
    (d.engineReport e).route.zones = d.route.zones := by
  unfold Device.engineReport; dsimp only; repeat' split
  all_goals simp
@[simp] theorem engineReport_route_eRes (d : Device) (e : EngineState) :
    (d.engineReport e).route.eRes = d.route.eRes := by
  unfold Device.engineReport; dsimp only; repeat' split
  all_goals simp

/-! ## engineLinkLost -/

@[simp] theorem engineLinkLost_inReset (d : Device) : d.engineLinkLost.inReset = d.inReset := by
  unfold Device.engineLinkLost; dsimp only; repeat' split
  all_goals simp
@[simp] theorem engineLinkLost_ignLine (d : Device) : d.engineLinkLost.ignLine = d.ignLine := by
  unfold Device.engineLinkLost; dsimp only; repeat' split
  all_goals simp
@[simp] theorem engineLinkLost_doorLine (d : Device) : d.engineLinkLost.doorLine = d.doorLine := by
  unfold Device.engineLinkLost; dsimp only; repeat' split
  all_goals simp
@[simp] theorem engineLinkLost_account (d : Device) : d.engineLinkLost.account = d.account := by
  unfold Device.engineLinkLost; dsimp only; repeat' split
  all_goals simp
@[simp] theorem engineLinkLost_wear (d : Device) : d.engineLinkLost.wear = d.wear := by
  unfold Device.engineLinkLost; dsimp only; repeat' split
  all_goals simp
@[simp] theorem engineLinkLost_nv (d : Device) : d.engineLinkLost.nv = d.nv := by
  unfold Device.engineLinkLost; dsimp only; repeat' split
  all_goals simp
@[simp] theorem engineLinkLost_params (d : Device) : d.engineLinkLost.params = d.params := by
  unfold Device.engineLinkLost; dsimp only; repeat' split
  all_goals simp
@[simp] theorem engineLinkLost_runClock (d : Device) : d.engineLinkLost.runClock = d.runClock := by
  unfold Device.engineLinkLost; dsimp only; repeat' split
  all_goals simp
@[simp] theorem engineLinkLost_clockLeft (d : Device) : d.engineLinkLost.clockLeft = d.clockLeft := by
  unfold Device.engineLinkLost; dsimp only; repeat' split
  all_goals simp
@[simp] theorem engineLinkLost_svc_presence (d : Device) : d.engineLinkLost.svc.presence = d.svc.presence := by
  unfold Device.engineLinkLost; dsimp only; repeat' split
  all_goals simp
@[simp] theorem engineLinkLost_svc_status (d : Device) : d.engineLinkLost.svc.status = d.svc.status := by
  unfold Device.engineLinkLost; dsimp only; repeat' split
  all_goals simp
@[simp] theorem engineLinkLost_route_dRoute (d : Device) : d.engineLinkLost.route.dRoute = d.route.dRoute := by
  unfold Device.engineLinkLost; dsimp only; repeat' split
  all_goals simp
@[simp] theorem engineLinkLost_route_zones (d : Device) : d.engineLinkLost.route.zones = d.route.zones := by
  unfold Device.engineLinkLost; dsimp only; repeat' split
  all_goals simp
@[simp] theorem engineLinkLost_route_eRes (d : Device) : d.engineLinkLost.route.eRes = d.route.eRes := by
  unfold Device.engineLinkLost; dsimp only; repeat' split
  all_goals simp

/-! ## crankFails -/

@[simp] theorem crankFails_inReset (d : Device) : d.crankFails.inReset = d.inReset := by
  unfold Device.crankFails; dsimp only; split <;> simp
@[simp] theorem crankFails_ignLine (d : Device) : d.crankFails.ignLine = d.ignLine := by
  unfold Device.crankFails; dsimp only; split <;> simp
@[simp] theorem crankFails_doorLine (d : Device) : d.crankFails.doorLine = d.doorLine := by
  unfold Device.crankFails; dsimp only; split <;> simp
@[simp] theorem crankFails_account (d : Device) : d.crankFails.account = d.account := by
  unfold Device.crankFails; dsimp only; split <;> simp
@[simp] theorem crankFails_wear (d : Device) : d.crankFails.wear = d.wear := by
  unfold Device.crankFails; dsimp only; split <;> simp
@[simp] theorem crankFails_nv (d : Device) : d.crankFails.nv = d.nv := by
  unfold Device.crankFails; dsimp only; split <;> simp
@[simp] theorem crankFails_params (d : Device) : d.crankFails.params = d.params := by
  unfold Device.crankFails; dsimp only; split <;> simp
@[simp] theorem crankFails_runClock (d : Device) : d.crankFails.runClock = d.runClock := by
  unfold Device.crankFails; dsimp only; split <;> simp
@[simp] theorem crankFails_clockLeft (d : Device) : d.crankFails.clockLeft = d.clockLeft := by
  unfold Device.crankFails; dsimp only; split <;> simp
@[simp] theorem crankFails_svc_presence (d : Device) : d.crankFails.svc.presence = d.svc.presence := by
  unfold Device.crankFails; dsimp only; split <;> simp
@[simp] theorem crankFails_svc_status (d : Device) : d.crankFails.svc.status = d.svc.status := by
  unfold Device.crankFails; dsimp only; split <;> simp
@[simp] theorem crankFails_route_dRoute (d : Device) : d.crankFails.route.dRoute = d.route.dRoute := by
  unfold Device.crankFails; dsimp only; split <;> simp
@[simp] theorem crankFails_route_zones (d : Device) : d.crankFails.route.zones = d.route.zones := by
  unfold Device.crankFails; dsimp only; split <;> simp
@[simp] theorem crankFails_route_eRes (d : Device) : d.crankFails.route.eRes = d.route.eRes := by
  unfold Device.crankFails; dsimp only; split <;> simp

/-! ## stopTimesOut -/

@[simp] theorem stopTimesOut_inReset (d : Device) : d.stopTimesOut.inReset = d.inReset := by
  simp [Device.stopTimesOut]
@[simp] theorem stopTimesOut_ignLine (d : Device) : d.stopTimesOut.ignLine = d.ignLine := by
  simp [Device.stopTimesOut]
@[simp] theorem stopTimesOut_doorLine (d : Device) : d.stopTimesOut.doorLine = d.doorLine := by
  simp [Device.stopTimesOut]
@[simp] theorem stopTimesOut_account (d : Device) : d.stopTimesOut.account = d.account := by
  simp [Device.stopTimesOut]
@[simp] theorem stopTimesOut_wear (d : Device) : d.stopTimesOut.wear = d.wear := by
  simp [Device.stopTimesOut]
@[simp] theorem stopTimesOut_nv (d : Device) : d.stopTimesOut.nv = d.nv := by
  simp [Device.stopTimesOut]
@[simp] theorem stopTimesOut_params (d : Device) : d.stopTimesOut.params = d.params := by
  simp [Device.stopTimesOut]
@[simp] theorem stopTimesOut_runClock (d : Device) : d.stopTimesOut.runClock = d.runClock := by
  simp [Device.stopTimesOut]
@[simp] theorem stopTimesOut_clockLeft (d : Device) : d.stopTimesOut.clockLeft = d.clockLeft := by
  simp [Device.stopTimesOut]
@[simp] theorem stopTimesOut_svc_presence (d : Device) : d.stopTimesOut.svc.presence = d.svc.presence := by
  simp [Device.stopTimesOut]
@[simp] theorem stopTimesOut_svc_status (d : Device) : d.stopTimesOut.svc.status = d.svc.status := by
  simp [Device.stopTimesOut]
@[simp] theorem stopTimesOut_route_dRoute (d : Device) : d.stopTimesOut.route.dRoute = d.route.dRoute := by
  simp [Device.stopTimesOut]
@[simp] theorem stopTimesOut_route_zones (d : Device) : d.stopTimesOut.route.zones = d.route.zones := by
  simp [Device.stopTimesOut]
@[simp] theorem stopTimesOut_route_eRes (d : Device) : d.stopTimesOut.route.eRes = d.route.eRes := by
  simp [Device.stopTimesOut]

/-! ## unlockEngine -/

@[simp] theorem unlockEngine_inReset (d : Device) : d.unlockEngine.inReset = d.inReset := by
  simp [Device.unlockEngine]
@[simp] theorem unlockEngine_ignLine (d : Device) : d.unlockEngine.ignLine = d.ignLine := by
  simp [Device.unlockEngine]
@[simp] theorem unlockEngine_doorLine (d : Device) : d.unlockEngine.doorLine = d.doorLine := by
  simp [Device.unlockEngine]
@[simp] theorem unlockEngine_account (d : Device) : d.unlockEngine.account = d.account := by
  simp [Device.unlockEngine]
@[simp] theorem unlockEngine_wear (d : Device) : d.unlockEngine.wear = d.wear := by
  simp [Device.unlockEngine]
@[simp] theorem unlockEngine_nv (d : Device) : d.unlockEngine.nv = d.nv := by
  simp [Device.unlockEngine]
@[simp] theorem unlockEngine_params (d : Device) : d.unlockEngine.params = d.params := by
  simp [Device.unlockEngine]
@[simp] theorem unlockEngine_runClock (d : Device) : d.unlockEngine.runClock = d.runClock := by
  simp [Device.unlockEngine]
@[simp] theorem unlockEngine_clockLeft (d : Device) : d.unlockEngine.clockLeft = d.clockLeft := by
  simp [Device.unlockEngine]
@[simp] theorem unlockEngine_svc_presence (d : Device) : d.unlockEngine.svc.presence = d.svc.presence := by
  simp [Device.unlockEngine]
@[simp] theorem unlockEngine_svc_status (d : Device) : d.unlockEngine.svc.status = d.svc.status := by
  simp [Device.unlockEngine]
@[simp] theorem unlockEngine_route_dRoute (d : Device) : d.unlockEngine.route.dRoute = d.route.dRoute := by
  simp [Device.unlockEngine]
@[simp] theorem unlockEngine_route_zones (d : Device) : d.unlockEngine.route.zones = d.route.zones := by
  simp [Device.unlockEngine]
@[simp] theorem unlockEngine_route_eRes (d : Device) : d.unlockEngine.route.eRes = d.route.eRes := by
  simp [Device.unlockEngine]

/-! ## applyArbiter -/

@[simp] theorem applyArbiter_inReset (d : Device) (a : ArbiterStep) : (d.applyArbiter a).inReset = d.inReset := by
  unfold Device.applyArbiter; dsimp only; split <;> simp
@[simp] theorem applyArbiter_ignLine (d : Device) (a : ArbiterStep) : (d.applyArbiter a).ignLine = d.ignLine := by
  unfold Device.applyArbiter; dsimp only; split <;> simp
@[simp] theorem applyArbiter_doorLine (d : Device) (a : ArbiterStep) :
    (d.applyArbiter a).doorLine = d.doorLine := by
  unfold Device.applyArbiter; dsimp only; split <;> simp
@[simp] theorem applyArbiter_account (d : Device) (a : ArbiterStep) : (d.applyArbiter a).account = d.account := by
  unfold Device.applyArbiter; dsimp only; split <;> simp
@[simp] theorem applyArbiter_wear (d : Device) (a : ArbiterStep) : (d.applyArbiter a).wear = d.wear := by
  unfold Device.applyArbiter; dsimp only; split <;> simp
@[simp] theorem applyArbiter_nv (d : Device) (a : ArbiterStep) : (d.applyArbiter a).nv = d.nv := by
  unfold Device.applyArbiter; dsimp only; split <;> simp
@[simp] theorem applyArbiter_params (d : Device) (a : ArbiterStep) : (d.applyArbiter a).params = d.params := by
  unfold Device.applyArbiter; dsimp only; split <;> simp
@[simp] theorem applyArbiter_runClock (d : Device) (a : ArbiterStep) :
    (d.applyArbiter a).runClock = d.runClock := by
  unfold Device.applyArbiter; dsimp only; split <;> simp
@[simp] theorem applyArbiter_clockLeft (d : Device) (a : ArbiterStep) :
    (d.applyArbiter a).clockLeft = d.clockLeft := by
  unfold Device.applyArbiter; dsimp only; split <;> simp
@[simp] theorem applyArbiter_svc_presence (d : Device) (a : ArbiterStep) :
    (d.applyArbiter a).svc.presence = d.svc.presence := by
  unfold Device.applyArbiter; dsimp only; split <;> simp
@[simp] theorem applyArbiter_svc_status (d : Device) (a : ArbiterStep) :
    (d.applyArbiter a).svc.status = d.svc.status := by
  unfold Device.applyArbiter; dsimp only; split <;> simp
@[simp] theorem applyArbiter_route_dRoute (d : Device) (a : ArbiterStep) :
    (d.applyArbiter a).route.dRoute = d.route.dRoute := by
  unfold Device.applyArbiter; dsimp only; split <;> simp
@[simp] theorem applyArbiter_route_zones (d : Device) (a : ArbiterStep) :
    (d.applyArbiter a).route.zones = d.route.zones := by
  unfold Device.applyArbiter; dsimp only; split <;> simp
@[simp] theorem applyArbiter_route_eRes (d : Device) (a : ArbiterStep) :
    (d.applyArbiter a).route.eRes = d.route.eRes := by
  unfold Device.applyArbiter; dsimp only; split <;> simp

/-! ## arrive -/

@[simp] theorem arrive_inReset (d : Device) (k : ClaimKind) (n : Nat) : (d.arrive k n).inReset = d.inReset := by
  simp [Device.arrive]
@[simp] theorem arrive_ignLine (d : Device) (k : ClaimKind) (n : Nat) : (d.arrive k n).ignLine = d.ignLine := by
  simp [Device.arrive]
@[simp] theorem arrive_doorLine (d : Device) (k : ClaimKind) (n : Nat) : (d.arrive k n).doorLine = d.doorLine := by
  simp [Device.arrive]
@[simp] theorem arrive_account (d : Device) (k : ClaimKind) (n : Nat) : (d.arrive k n).account = d.account := by
  simp [Device.arrive]
@[simp] theorem arrive_wear (d : Device) (k : ClaimKind) (n : Nat) : (d.arrive k n).wear = d.wear := by
  simp [Device.arrive]
@[simp] theorem arrive_nv (d : Device) (k : ClaimKind) (n : Nat) : (d.arrive k n).nv = d.nv := by
  simp [Device.arrive]
@[simp] theorem arrive_params (d : Device) (k : ClaimKind) (n : Nat) : (d.arrive k n).params = d.params := by
  simp [Device.arrive]
@[simp] theorem arrive_runClock (d : Device) (k : ClaimKind) (n : Nat) : (d.arrive k n).runClock = d.runClock := by
  simp [Device.arrive]
@[simp] theorem arrive_clockLeft (d : Device) (k : ClaimKind) (n : Nat) :
    (d.arrive k n).clockLeft = d.clockLeft := by
  simp [Device.arrive]
@[simp] theorem arrive_svc_presence (d : Device) (k : ClaimKind) (n : Nat) :
    (d.arrive k n).svc.presence = d.svc.presence := by
  simp [Device.arrive]
@[simp] theorem arrive_svc_status (d : Device) (k : ClaimKind) (n : Nat) :
    (d.arrive k n).svc.status = d.svc.status := by
  simp [Device.arrive]
@[simp] theorem arrive_route_dRoute (d : Device) (k : ClaimKind) (n : Nat) :
    (d.arrive k n).route.dRoute = d.route.dRoute := by
  simp [Device.arrive]
@[simp] theorem arrive_route_zones (d : Device) (k : ClaimKind) (n : Nat) :
    (d.arrive k n).route.zones = d.route.zones := by
  simp [Device.arrive]
@[simp] theorem arrive_route_eRes (d : Device) (k : ClaimKind) (n : Nat) :
    (d.arrive k n).route.eRes = d.route.eRes := by
  simp [Device.arrive]

/-! ## releaseClaim -/

@[simp] theorem releaseClaim_inReset (d : Device) (k : ClaimKind) (c : ClaimCause) :
    (d.releaseClaim k c).inReset = d.inReset := by
  simp [Device.releaseClaim]
@[simp] theorem releaseClaim_ignLine (d : Device) (k : ClaimKind) (c : ClaimCause) :
    (d.releaseClaim k c).ignLine = d.ignLine := by
  simp [Device.releaseClaim]
@[simp] theorem releaseClaim_doorLine (d : Device) (k : ClaimKind) (c : ClaimCause) :
    (d.releaseClaim k c).doorLine = d.doorLine := by
  simp [Device.releaseClaim]
@[simp] theorem releaseClaim_account (d : Device) (k : ClaimKind) (c : ClaimCause) :
    (d.releaseClaim k c).account = d.account := by
  simp [Device.releaseClaim]
@[simp] theorem releaseClaim_wear (d : Device) (k : ClaimKind) (c : ClaimCause) :
    (d.releaseClaim k c).wear = d.wear := by
  simp [Device.releaseClaim]
@[simp] theorem releaseClaim_nv (d : Device) (k : ClaimKind) (c : ClaimCause) : (d.releaseClaim k c).nv = d.nv := by
  simp [Device.releaseClaim]
@[simp] theorem releaseClaim_params (d : Device) (k : ClaimKind) (c : ClaimCause) :
    (d.releaseClaim k c).params = d.params := by
  simp [Device.releaseClaim]
@[simp] theorem releaseClaim_runClock (d : Device) (k : ClaimKind) (c : ClaimCause) :
    (d.releaseClaim k c).runClock = d.runClock := by
  simp [Device.releaseClaim]
@[simp] theorem releaseClaim_clockLeft (d : Device) (k : ClaimKind) (c : ClaimCause) :
    (d.releaseClaim k c).clockLeft = d.clockLeft := by
  simp [Device.releaseClaim]
@[simp] theorem releaseClaim_svc_presence (d : Device) (k : ClaimKind) (c : ClaimCause) :
    (d.releaseClaim k c).svc.presence = d.svc.presence := by
  simp [Device.releaseClaim]
@[simp] theorem releaseClaim_svc_status (d : Device) (k : ClaimKind) (c : ClaimCause) :
    (d.releaseClaim k c).svc.status = d.svc.status := by
  simp [Device.releaseClaim]
@[simp] theorem releaseClaim_route_dRoute (d : Device) (k : ClaimKind) (c : ClaimCause) :
    (d.releaseClaim k c).route.dRoute = d.route.dRoute := by
  simp [Device.releaseClaim]
@[simp] theorem releaseClaim_route_zones (d : Device) (k : ClaimKind) (c : ClaimCause) :
    (d.releaseClaim k c).route.zones = d.route.zones := by
  simp [Device.releaseClaim]
@[simp] theorem releaseClaim_route_eRes (d : Device) (k : ClaimKind) (c : ClaimCause) :
    (d.releaseClaim k c).route.eRes = d.route.eRes := by
  simp [Device.releaseClaim]

/-! ## dropClaims -/

@[simp] theorem dropClaims_inReset (d : Device) (p : Port) : (d.dropClaims p).inReset = d.inReset := by
  simp [Device.dropClaims]
@[simp] theorem dropClaims_ignLine (d : Device) (p : Port) : (d.dropClaims p).ignLine = d.ignLine := by
  simp [Device.dropClaims]
@[simp] theorem dropClaims_doorLine (d : Device) (p : Port) : (d.dropClaims p).doorLine = d.doorLine := by
  simp [Device.dropClaims]
@[simp] theorem dropClaims_account (d : Device) (p : Port) : (d.dropClaims p).account = d.account := by
  simp [Device.dropClaims]
@[simp] theorem dropClaims_wear (d : Device) (p : Port) : (d.dropClaims p).wear = d.wear := by
  simp [Device.dropClaims]
@[simp] theorem dropClaims_nv (d : Device) (p : Port) : (d.dropClaims p).nv = d.nv := by
  simp [Device.dropClaims]
@[simp] theorem dropClaims_params (d : Device) (p : Port) : (d.dropClaims p).params = d.params := by
  simp [Device.dropClaims]
@[simp] theorem dropClaims_runClock (d : Device) (p : Port) : (d.dropClaims p).runClock = d.runClock := by
  simp [Device.dropClaims]
@[simp] theorem dropClaims_clockLeft (d : Device) (p : Port) : (d.dropClaims p).clockLeft = d.clockLeft := by
  simp [Device.dropClaims]
@[simp] theorem dropClaims_svc_presence (d : Device) (p : Port) :
    (d.dropClaims p).svc.presence = d.svc.presence := by
  simp [Device.dropClaims]
@[simp] theorem dropClaims_svc_status (d : Device) (p : Port) : (d.dropClaims p).svc.status = d.svc.status := by
  simp [Device.dropClaims]
@[simp] theorem dropClaims_route_dRoute (d : Device) (p : Port) :
    (d.dropClaims p).route.dRoute = d.route.dRoute := by
  simp [Device.dropClaims]
@[simp] theorem dropClaims_route_zones (d : Device) (p : Port) : (d.dropClaims p).route.zones = d.route.zones := by
  simp [Device.dropClaims]
@[simp] theorem dropClaims_route_eRes (d : Device) (p : Port) : (d.dropClaims p).route.eRes = d.route.eRes := by
  simp [Device.dropClaims]

/-! ## evalZoneStop -/

@[simp] theorem evalZoneStop_inReset (d : Device) : d.evalZoneStop.inReset = d.inReset := by
  unfold Device.evalZoneStop; dsimp only; repeat' split
  all_goals simp
@[simp] theorem evalZoneStop_ignLine (d : Device) : d.evalZoneStop.ignLine = d.ignLine := by
  unfold Device.evalZoneStop; dsimp only; repeat' split
  all_goals simp
@[simp] theorem evalZoneStop_doorLine (d : Device) : d.evalZoneStop.doorLine = d.doorLine := by
  unfold Device.evalZoneStop; dsimp only; repeat' split
  all_goals simp
@[simp] theorem evalZoneStop_account (d : Device) : d.evalZoneStop.account = d.account := by
  unfold Device.evalZoneStop; dsimp only; repeat' split
  all_goals simp
@[simp] theorem evalZoneStop_wear (d : Device) : d.evalZoneStop.wear = d.wear := by
  unfold Device.evalZoneStop; dsimp only; repeat' split
  all_goals simp
@[simp] theorem evalZoneStop_nv (d : Device) : d.evalZoneStop.nv = d.nv := by
  unfold Device.evalZoneStop; dsimp only; repeat' split
  all_goals simp
@[simp] theorem evalZoneStop_params (d : Device) : d.evalZoneStop.params = d.params := by
  unfold Device.evalZoneStop; dsimp only; repeat' split
  all_goals simp
@[simp] theorem evalZoneStop_runClock (d : Device) : d.evalZoneStop.runClock = d.runClock := by
  unfold Device.evalZoneStop; dsimp only; repeat' split
  all_goals simp
@[simp] theorem evalZoneStop_clockLeft (d : Device) : d.evalZoneStop.clockLeft = d.clockLeft := by
  unfold Device.evalZoneStop; dsimp only; repeat' split
  all_goals simp
@[simp] theorem evalZoneStop_svc_presence (d : Device) : d.evalZoneStop.svc.presence = d.svc.presence := by
  unfold Device.evalZoneStop; dsimp only; repeat' split
  all_goals simp
@[simp] theorem evalZoneStop_svc_status (d : Device) : d.evalZoneStop.svc.status = d.svc.status := by
  unfold Device.evalZoneStop; dsimp only; repeat' split
  all_goals simp
@[simp] theorem evalZoneStop_route_dRoute (d : Device) : d.evalZoneStop.route.dRoute = d.route.dRoute := by
  unfold Device.evalZoneStop; dsimp only; repeat' split
  all_goals simp
@[simp] theorem evalZoneStop_route_zones (d : Device) : d.evalZoneStop.route.zones = d.route.zones := by
  unfold Device.evalZoneStop; dsimp only; repeat' split
  all_goals simp
@[simp] theorem evalZoneStop_route_eRes (d : Device) : d.evalZoneStop.route.eRes = d.route.eRes := by
  unfold Device.evalZoneStop; dsimp only; repeat' split
  all_goals simp

/-! ## raiseKeyOff -/

@[simp] theorem raiseKeyOff_inReset (d : Device) : d.raiseKeyOff.inReset = d.inReset := by
  unfold Device.raiseKeyOff; dsimp only; split <;> simp
@[simp] theorem raiseKeyOff_ignLine (d : Device) : d.raiseKeyOff.ignLine = d.ignLine := by
  unfold Device.raiseKeyOff; dsimp only; split <;> simp
@[simp] theorem raiseKeyOff_doorLine (d : Device) : d.raiseKeyOff.doorLine = d.doorLine := by
  unfold Device.raiseKeyOff; dsimp only; split <;> simp
@[simp] theorem raiseKeyOff_account (d : Device) : d.raiseKeyOff.account = d.account := by
  unfold Device.raiseKeyOff; dsimp only; split <;> simp
@[simp] theorem raiseKeyOff_wear (d : Device) : d.raiseKeyOff.wear = d.wear := by
  unfold Device.raiseKeyOff; dsimp only; split <;> simp
@[simp] theorem raiseKeyOff_nv (d : Device) : d.raiseKeyOff.nv = d.nv := by
  unfold Device.raiseKeyOff; dsimp only; split <;> simp
@[simp] theorem raiseKeyOff_params (d : Device) : d.raiseKeyOff.params = d.params := by
  unfold Device.raiseKeyOff; dsimp only; split <;> simp
@[simp] theorem raiseKeyOff_runClock (d : Device) : d.raiseKeyOff.runClock = d.runClock := by
  unfold Device.raiseKeyOff; dsimp only; split <;> simp
@[simp] theorem raiseKeyOff_clockLeft (d : Device) : d.raiseKeyOff.clockLeft = d.clockLeft := by
  unfold Device.raiseKeyOff; dsimp only; split <;> simp
@[simp] theorem raiseKeyOff_svc_presence (d : Device) : d.raiseKeyOff.svc.presence = d.svc.presence := by
  unfold Device.raiseKeyOff; dsimp only; split <;> simp
@[simp] theorem raiseKeyOff_svc_status (d : Device) : d.raiseKeyOff.svc.status = d.svc.status := by
  unfold Device.raiseKeyOff; dsimp only; split <;> simp
@[simp] theorem raiseKeyOff_route_dRoute (d : Device) : d.raiseKeyOff.route.dRoute = d.route.dRoute := by
  unfold Device.raiseKeyOff; dsimp only; split <;> simp
@[simp] theorem raiseKeyOff_route_zones (d : Device) : d.raiseKeyOff.route.zones = d.route.zones := by
  unfold Device.raiseKeyOff; dsimp only; split <;> simp
@[simp] theorem raiseKeyOff_route_eRes (d : Device) : d.raiseKeyOff.route.eRes = d.route.eRes := by
  unfold Device.raiseKeyOff; dsimp only; split <;> simp

/-! ## lowerKeyOff -/

@[simp] theorem lowerKeyOff_inReset (d : Device) : d.lowerKeyOff.inReset = d.inReset := by
  unfold Device.lowerKeyOff; dsimp only; split <;> simp
@[simp] theorem lowerKeyOff_ignLine (d : Device) : d.lowerKeyOff.ignLine = d.ignLine := by
  unfold Device.lowerKeyOff; dsimp only; split <;> simp
@[simp] theorem lowerKeyOff_doorLine (d : Device) : d.lowerKeyOff.doorLine = d.doorLine := by
  unfold Device.lowerKeyOff; dsimp only; split <;> simp
@[simp] theorem lowerKeyOff_account (d : Device) : d.lowerKeyOff.account = d.account := by
  unfold Device.lowerKeyOff; dsimp only; split <;> simp
@[simp] theorem lowerKeyOff_wear (d : Device) : d.lowerKeyOff.wear = d.wear := by
  unfold Device.lowerKeyOff; dsimp only; split <;> simp
@[simp] theorem lowerKeyOff_nv (d : Device) : d.lowerKeyOff.nv = d.nv := by
  unfold Device.lowerKeyOff; dsimp only; split <;> simp
@[simp] theorem lowerKeyOff_params (d : Device) : d.lowerKeyOff.params = d.params := by
  unfold Device.lowerKeyOff; dsimp only; split <;> simp
@[simp] theorem lowerKeyOff_runClock (d : Device) : d.lowerKeyOff.runClock = d.runClock := by
  unfold Device.lowerKeyOff; dsimp only; split <;> simp
@[simp] theorem lowerKeyOff_clockLeft (d : Device) : d.lowerKeyOff.clockLeft = d.clockLeft := by
  unfold Device.lowerKeyOff; dsimp only; split <;> simp
@[simp] theorem lowerKeyOff_svc_presence (d : Device) : d.lowerKeyOff.svc.presence = d.svc.presence := by
  unfold Device.lowerKeyOff; dsimp only; split <;> simp
@[simp] theorem lowerKeyOff_svc_status (d : Device) : d.lowerKeyOff.svc.status = d.svc.status := by
  unfold Device.lowerKeyOff; dsimp only; split <;> simp
@[simp] theorem lowerKeyOff_route_dRoute (d : Device) : d.lowerKeyOff.route.dRoute = d.route.dRoute := by
  unfold Device.lowerKeyOff; dsimp only; split <;> simp
@[simp] theorem lowerKeyOff_route_zones (d : Device) : d.lowerKeyOff.route.zones = d.route.zones := by
  unfold Device.lowerKeyOff; dsimp only; split <;> simp
@[simp] theorem lowerKeyOff_route_eRes (d : Device) : d.lowerKeyOff.route.eRes = d.route.eRes := by
  unfold Device.lowerKeyOff; dsimp only; split <;> simp

/-! ## enterHalt -/

@[simp] theorem enterHalt_inReset (d : Device) (x : HaltOrigin) : (d.enterHalt x).inReset = d.inReset := by
  simp [Device.enterHalt]
@[simp] theorem enterHalt_ignLine (d : Device) (x : HaltOrigin) : (d.enterHalt x).ignLine = d.ignLine := by
  simp [Device.enterHalt]
@[simp] theorem enterHalt_doorLine (d : Device) (x : HaltOrigin) : (d.enterHalt x).doorLine = d.doorLine := by
  simp [Device.enterHalt]
@[simp] theorem enterHalt_account (d : Device) (x : HaltOrigin) : (d.enterHalt x).account = d.account := by
  simp [Device.enterHalt]
@[simp] theorem enterHalt_wear (d : Device) (x : HaltOrigin) : (d.enterHalt x).wear = d.wear := by
  simp [Device.enterHalt]
@[simp] theorem enterHalt_nv (d : Device) (x : HaltOrigin) : (d.enterHalt x).nv = d.nv := by
  simp [Device.enterHalt]
@[simp] theorem enterHalt_params (d : Device) (x : HaltOrigin) : (d.enterHalt x).params = d.params := by
  simp [Device.enterHalt]
@[simp] theorem enterHalt_runClock (d : Device) (x : HaltOrigin) : (d.enterHalt x).runClock = d.runClock := by
  simp [Device.enterHalt]
@[simp] theorem enterHalt_clockLeft (d : Device) (x : HaltOrigin) : (d.enterHalt x).clockLeft = d.clockLeft := by
  simp [Device.enterHalt]
@[simp] theorem enterHalt_svc_presence (d : Device) (x : HaltOrigin) :
    (d.enterHalt x).svc.presence = d.svc.presence := by
  simp [Device.enterHalt]
@[simp] theorem enterHalt_svc_status (d : Device) (x : HaltOrigin) : (d.enterHalt x).svc.status = d.svc.status := by
  simp [Device.enterHalt]
@[simp] theorem enterHalt_route_dRoute (d : Device) (x : HaltOrigin) :
    (d.enterHalt x).route.dRoute = d.route.dRoute := by
  simp [Device.enterHalt]
@[simp] theorem enterHalt_route_zones (d : Device) (x : HaltOrigin) :
    (d.enterHalt x).route.zones = d.route.zones := by
  simp [Device.enterHalt]
@[simp] theorem enterHalt_route_eRes (d : Device) (x : HaltOrigin) : (d.enterHalt x).route.eRes = d.route.eRes := by
  simp [Device.enterHalt]

/-! ## checkDoorOpen -/

@[simp] theorem checkDoorOpen_inReset (d : Device) : d.checkDoorOpen.inReset = d.inReset := by
  unfold Device.checkDoorOpen; repeat' split
  all_goals simp
@[simp] theorem checkDoorOpen_ignLine (d : Device) : d.checkDoorOpen.ignLine = d.ignLine := by
  unfold Device.checkDoorOpen; repeat' split
  all_goals simp
@[simp] theorem checkDoorOpen_doorLine (d : Device) : d.checkDoorOpen.doorLine = d.doorLine := by
  unfold Device.checkDoorOpen; repeat' split
  all_goals simp
@[simp] theorem checkDoorOpen_account (d : Device) : d.checkDoorOpen.account = d.account := by
  unfold Device.checkDoorOpen; repeat' split
  all_goals simp
@[simp] theorem checkDoorOpen_wear (d : Device) : d.checkDoorOpen.wear = d.wear := by
  unfold Device.checkDoorOpen; repeat' split
  all_goals simp
@[simp] theorem checkDoorOpen_nv (d : Device) : d.checkDoorOpen.nv = d.nv := by
  unfold Device.checkDoorOpen; repeat' split
  all_goals simp
@[simp] theorem checkDoorOpen_params (d : Device) : d.checkDoorOpen.params = d.params := by
  unfold Device.checkDoorOpen; repeat' split
  all_goals simp
@[simp] theorem checkDoorOpen_runClock (d : Device) : d.checkDoorOpen.runClock = d.runClock := by
  unfold Device.checkDoorOpen; repeat' split
  all_goals simp
@[simp] theorem checkDoorOpen_clockLeft (d : Device) : d.checkDoorOpen.clockLeft = d.clockLeft := by
  unfold Device.checkDoorOpen; repeat' split
  all_goals simp
@[simp] theorem checkDoorOpen_svc_presence (d : Device) : d.checkDoorOpen.svc.presence = d.svc.presence := by
  unfold Device.checkDoorOpen; repeat' split
  all_goals simp
@[simp] theorem checkDoorOpen_svc_status (d : Device) : d.checkDoorOpen.svc.status = d.svc.status := by
  unfold Device.checkDoorOpen; repeat' split
  all_goals simp
@[simp] theorem checkDoorOpen_route_dRoute (d : Device) : d.checkDoorOpen.route.dRoute = d.route.dRoute := by
  unfold Device.checkDoorOpen; repeat' split
  all_goals simp
@[simp] theorem checkDoorOpen_route_zones (d : Device) : d.checkDoorOpen.route.zones = d.route.zones := by
  unfold Device.checkDoorOpen; repeat' split
  all_goals simp
@[simp] theorem checkDoorOpen_route_eRes (d : Device) : d.checkDoorOpen.route.eRes = d.route.eRes := by
  unfold Device.checkDoorOpen; repeat' split
  all_goals simp

/-! ## enterRun -/

@[simp] theorem enterRun_inReset (d : Device) (c : ModeCause) : (d.enterRun c).inReset = d.inReset := by
  simp [Device.enterRun]
@[simp] theorem enterRun_ignLine (d : Device) (c : ModeCause) : (d.enterRun c).ignLine = d.ignLine := by
  simp [Device.enterRun]
@[simp] theorem enterRun_doorLine (d : Device) (c : ModeCause) : (d.enterRun c).doorLine = d.doorLine := by
  simp [Device.enterRun]
@[simp] theorem enterRun_account (d : Device) (c : ModeCause) : (d.enterRun c).account = d.account := by
  simp [Device.enterRun]
@[simp] theorem enterRun_wear (d : Device) (c : ModeCause) : (d.enterRun c).wear = d.wear := by
  simp [Device.enterRun]
@[simp] theorem enterRun_nv (d : Device) (c : ModeCause) : (d.enterRun c).nv = d.nv := by
  simp [Device.enterRun]
@[simp] theorem enterRun_params (d : Device) (c : ModeCause) : (d.enterRun c).params = d.params := by
  simp [Device.enterRun]
@[simp] theorem enterRun_runClock (d : Device) (c : ModeCause) : (d.enterRun c).runClock = d.runClock := by
  simp [Device.enterRun]
@[simp] theorem enterRun_clockLeft (d : Device) (c : ModeCause) : (d.enterRun c).clockLeft = d.clockLeft := by
  simp [Device.enterRun]
@[simp] theorem enterRun_svc_presence (d : Device) (c : ModeCause) :
    (d.enterRun c).svc.presence = d.svc.presence := by
  simp [Device.enterRun]
@[simp] theorem enterRun_svc_status (d : Device) (c : ModeCause) : (d.enterRun c).svc.status = d.svc.status := by
  simp [Device.enterRun]
@[simp] theorem enterRun_route_dRoute (d : Device) (c : ModeCause) :
    (d.enterRun c).route.dRoute = d.route.dRoute := by
  simp [Device.enterRun]
@[simp] theorem enterRun_route_zones (d : Device) (c : ModeCause) : (d.enterRun c).route.zones = d.route.zones := by
  simp [Device.enterRun]
@[simp] theorem enterRun_route_eRes (d : Device) (c : ModeCause) : (d.enterRun c).route.eRes = d.route.eRes := by
  simp [Device.enterRun]

/-! ## checkRunReady -/

@[simp] theorem checkRunReady_inReset (d : Device) : d.checkRunReady.inReset = d.inReset := by
  unfold Device.checkRunReady; split <;> simp
@[simp] theorem checkRunReady_ignLine (d : Device) : d.checkRunReady.ignLine = d.ignLine := by
  unfold Device.checkRunReady; split <;> simp
@[simp] theorem checkRunReady_doorLine (d : Device) : d.checkRunReady.doorLine = d.doorLine := by
  unfold Device.checkRunReady; split <;> simp
@[simp] theorem checkRunReady_account (d : Device) : d.checkRunReady.account = d.account := by
  unfold Device.checkRunReady; split <;> simp
@[simp] theorem checkRunReady_wear (d : Device) : d.checkRunReady.wear = d.wear := by
  unfold Device.checkRunReady; split <;> simp
@[simp] theorem checkRunReady_nv (d : Device) : d.checkRunReady.nv = d.nv := by
  unfold Device.checkRunReady; split <;> simp
@[simp] theorem checkRunReady_params (d : Device) : d.checkRunReady.params = d.params := by
  unfold Device.checkRunReady; split <;> simp
@[simp] theorem checkRunReady_runClock (d : Device) : d.checkRunReady.runClock = d.runClock := by
  unfold Device.checkRunReady; split <;> simp
@[simp] theorem checkRunReady_clockLeft (d : Device) : d.checkRunReady.clockLeft = d.clockLeft := by
  unfold Device.checkRunReady; split <;> simp
@[simp] theorem checkRunReady_svc_presence (d : Device) : d.checkRunReady.svc.presence = d.svc.presence := by
  unfold Device.checkRunReady; split <;> simp
@[simp] theorem checkRunReady_svc_status (d : Device) : d.checkRunReady.svc.status = d.svc.status := by
  unfold Device.checkRunReady; split <;> simp
@[simp] theorem checkRunReady_route_dRoute (d : Device) : d.checkRunReady.route.dRoute = d.route.dRoute := by
  unfold Device.checkRunReady; split <;> simp
@[simp] theorem checkRunReady_route_zones (d : Device) : d.checkRunReady.route.zones = d.route.zones := by
  unfold Device.checkRunReady; split <;> simp
@[simp] theorem checkRunReady_route_eRes (d : Device) : d.checkRunReady.route.eRes = d.route.eRes := by
  unfold Device.checkRunReady; split <;> simp

/-! ## enterLimited -/

@[simp] theorem enterLimited_inReset (d : Device) (c : ModeCause) (n m : Nat) :
    (d.enterLimited c n m).inReset = d.inReset := by
  simp [Device.enterLimited]
@[simp] theorem enterLimited_ignLine (d : Device) (c : ModeCause) (n m : Nat) :
    (d.enterLimited c n m).ignLine = d.ignLine := by
  simp [Device.enterLimited]
@[simp] theorem enterLimited_doorLine (d : Device) (c : ModeCause) (n m : Nat) :
    (d.enterLimited c n m).doorLine = d.doorLine := by
  simp [Device.enterLimited]
@[simp] theorem enterLimited_account (d : Device) (c : ModeCause) (n m : Nat) :
    (d.enterLimited c n m).account = d.account := by
  simp [Device.enterLimited]
@[simp] theorem enterLimited_wear (d : Device) (c : ModeCause) (n m : Nat) :
    (d.enterLimited c n m).wear = d.wear := by
  simp [Device.enterLimited]
@[simp] theorem enterLimited_nv (d : Device) (c : ModeCause) (n m : Nat) : (d.enterLimited c n m).nv = d.nv := by
  simp [Device.enterLimited]
@[simp] theorem enterLimited_params (d : Device) (c : ModeCause) (n m : Nat) :
    (d.enterLimited c n m).params = d.params := by
  simp [Device.enterLimited]
@[simp] theorem enterLimited_runClock (d : Device) (c : ModeCause) (n m : Nat) :
    (d.enterLimited c n m).runClock = d.runClock := by
  simp [Device.enterLimited]
@[simp] theorem enterLimited_clockLeft (d : Device) (c : ModeCause) (n m : Nat) :
    (d.enterLimited c n m).clockLeft = d.clockLeft := by
  simp [Device.enterLimited]
@[simp] theorem enterLimited_svc_presence (d : Device) (c : ModeCause) (n m : Nat) :
    (d.enterLimited c n m).svc.presence = d.svc.presence := by
  simp [Device.enterLimited]
@[simp] theorem enterLimited_svc_status (d : Device) (c : ModeCause) (n m : Nat) :
    (d.enterLimited c n m).svc.status = d.svc.status := by
  simp [Device.enterLimited]
@[simp] theorem enterLimited_route_dRoute (d : Device) (c : ModeCause) (n m : Nat) :
    (d.enterLimited c n m).route.dRoute = d.route.dRoute := by
  simp [Device.enterLimited]
@[simp] theorem enterLimited_route_zones (d : Device) (c : ModeCause) (n m : Nat) :
    (d.enterLimited c n m).route.zones = d.route.zones := by
  simp [Device.enterLimited]
@[simp] theorem enterLimited_route_eRes (d : Device) (c : ModeCause) (n m : Nat) :
    (d.enterLimited c n m).route.eRes = d.route.eRes := by
  simp [Device.enterLimited]

/-! ## enterWaking -/

@[simp] theorem enterWaking_inReset (d : Device) (c : ModeCause) (n : Nat) :
    (d.enterWaking c n).inReset = d.inReset := by
  simp [Device.enterWaking]
@[simp] theorem enterWaking_ignLine (d : Device) (c : ModeCause) (n : Nat) :
    (d.enterWaking c n).ignLine = d.ignLine := by
  simp [Device.enterWaking]
@[simp] theorem enterWaking_doorLine (d : Device) (c : ModeCause) (n : Nat) :
    (d.enterWaking c n).doorLine = d.doorLine := by
  simp [Device.enterWaking]
@[simp] theorem enterWaking_account (d : Device) (c : ModeCause) (n : Nat) :
    (d.enterWaking c n).account = d.account := by
  simp [Device.enterWaking]
@[simp] theorem enterWaking_wear (d : Device) (c : ModeCause) (n : Nat) : (d.enterWaking c n).wear = d.wear := by
  simp [Device.enterWaking]
@[simp] theorem enterWaking_nv (d : Device) (c : ModeCause) (n : Nat) : (d.enterWaking c n).nv = d.nv := by
  simp [Device.enterWaking]
@[simp] theorem enterWaking_params (d : Device) (c : ModeCause) (n : Nat) :
    (d.enterWaking c n).params = d.params := by
  simp [Device.enterWaking]
@[simp] theorem enterWaking_runClock (d : Device) (c : ModeCause) (n : Nat) :
    (d.enterWaking c n).runClock = d.runClock := by
  simp [Device.enterWaking]
@[simp] theorem enterWaking_clockLeft (d : Device) (c : ModeCause) (n : Nat) :
    (d.enterWaking c n).clockLeft = d.clockLeft := by
  simp [Device.enterWaking]
@[simp] theorem enterWaking_svc_presence (d : Device) (c : ModeCause) (n : Nat) :
    (d.enterWaking c n).svc.presence = d.svc.presence := by
  simp [Device.enterWaking]
@[simp] theorem enterWaking_svc_status (d : Device) (c : ModeCause) (n : Nat) :
    (d.enterWaking c n).svc.status = d.svc.status := by
  simp [Device.enterWaking]
@[simp] theorem enterWaking_route_dRoute (d : Device) (c : ModeCause) (n : Nat) :
    (d.enterWaking c n).route.dRoute = d.route.dRoute := by
  simp [Device.enterWaking]
@[simp] theorem enterWaking_route_zones (d : Device) (c : ModeCause) (n : Nat) :
    (d.enterWaking c n).route.zones = d.route.zones := by
  simp [Device.enterWaking]
@[simp] theorem enterWaking_route_eRes (d : Device) (c : ModeCause) (n : Nat) :
    (d.enterWaking c n).route.eRes = d.route.eRes := by
  simp [Device.enterWaking]

/-! ## enterShutdown -/

@[simp] theorem enterShutdown_inReset (d : Device) (c : ModeCause) (n : Nat) :
    (d.enterShutdown c n).inReset = d.inReset := by
  simp [Device.enterShutdown]
@[simp] theorem enterShutdown_ignLine (d : Device) (c : ModeCause) (n : Nat) :
    (d.enterShutdown c n).ignLine = d.ignLine := by
  simp [Device.enterShutdown]
@[simp] theorem enterShutdown_doorLine (d : Device) (c : ModeCause) (n : Nat) :
    (d.enterShutdown c n).doorLine = d.doorLine := by
  simp [Device.enterShutdown]
@[simp] theorem enterShutdown_account (d : Device) (c : ModeCause) (n : Nat) :
    (d.enterShutdown c n).account = d.account := by
  simp [Device.enterShutdown]
@[simp] theorem enterShutdown_wear (d : Device) (c : ModeCause) (n : Nat) :
    (d.enterShutdown c n).wear = d.wear := by
  simp [Device.enterShutdown]
@[simp] theorem enterShutdown_nv (d : Device) (c : ModeCause) (n : Nat) : (d.enterShutdown c n).nv = d.nv := by
  simp [Device.enterShutdown]
@[simp] theorem enterShutdown_params (d : Device) (c : ModeCause) (n : Nat) :
    (d.enterShutdown c n).params = d.params := by
  simp [Device.enterShutdown]
@[simp] theorem enterShutdown_runClock (d : Device) (c : ModeCause) (n : Nat) :
    (d.enterShutdown c n).runClock = d.runClock := by
  simp [Device.enterShutdown]
@[simp] theorem enterShutdown_clockLeft (d : Device) (c : ModeCause) (n : Nat) :
    (d.enterShutdown c n).clockLeft = d.clockLeft := by
  simp [Device.enterShutdown]
@[simp] theorem enterShutdown_svc_presence (d : Device) (c : ModeCause) (n : Nat) :
    (d.enterShutdown c n).svc.presence = d.svc.presence := by
  simp [Device.enterShutdown]
@[simp] theorem enterShutdown_svc_status (d : Device) (c : ModeCause) (n : Nat) :
    (d.enterShutdown c n).svc.status = d.svc.status := by
  simp [Device.enterShutdown]
@[simp] theorem enterShutdown_route_dRoute (d : Device) (c : ModeCause) (n : Nat) :
    (d.enterShutdown c n).route.dRoute = d.route.dRoute := by
  simp [Device.enterShutdown]
@[simp] theorem enterShutdown_route_zones (d : Device) (c : ModeCause) (n : Nat) :
    (d.enterShutdown c n).route.zones = d.route.zones := by
  simp [Device.enterShutdown]
@[simp] theorem enterShutdown_route_eRes (d : Device) (c : ModeCause) (n : Nat) :
    (d.enterShutdown c n).route.eRes = d.route.eRes := by
  simp [Device.enterShutdown]

/-! ## evalDoorAgree -/

@[simp] theorem evalDoorAgree_inReset (d : Device) : d.evalDoorAgree.inReset = d.inReset := by
  unfold Device.evalDoorAgree; dsimp only; repeat' split
  all_goals simp
@[simp] theorem evalDoorAgree_ignLine (d : Device) : d.evalDoorAgree.ignLine = d.ignLine := by
  unfold Device.evalDoorAgree; dsimp only; repeat' split
  all_goals simp
@[simp] theorem evalDoorAgree_doorLine (d : Device) : d.evalDoorAgree.doorLine = d.doorLine := by
  unfold Device.evalDoorAgree; dsimp only; repeat' split
  all_goals simp
@[simp] theorem evalDoorAgree_account (d : Device) : d.evalDoorAgree.account = d.account := by
  unfold Device.evalDoorAgree; dsimp only; repeat' split
  all_goals simp
@[simp] theorem evalDoorAgree_wear (d : Device) : d.evalDoorAgree.wear = d.wear := by
  unfold Device.evalDoorAgree; dsimp only; repeat' split
  all_goals simp
@[simp] theorem evalDoorAgree_nv (d : Device) : d.evalDoorAgree.nv = d.nv := by
  unfold Device.evalDoorAgree; dsimp only; repeat' split
  all_goals simp
@[simp] theorem evalDoorAgree_params (d : Device) : d.evalDoorAgree.params = d.params := by
  unfold Device.evalDoorAgree; dsimp only; repeat' split
  all_goals simp
@[simp] theorem evalDoorAgree_runClock (d : Device) : d.evalDoorAgree.runClock = d.runClock := by
  unfold Device.evalDoorAgree; dsimp only; repeat' split
  all_goals simp
@[simp] theorem evalDoorAgree_clockLeft (d : Device) : d.evalDoorAgree.clockLeft = d.clockLeft := by
  unfold Device.evalDoorAgree; dsimp only; repeat' split
  all_goals simp
@[simp] theorem evalDoorAgree_svc_presence (d : Device) : d.evalDoorAgree.svc.presence = d.svc.presence := by
  unfold Device.evalDoorAgree; dsimp only; repeat' split
  all_goals simp
@[simp] theorem evalDoorAgree_svc_status (d : Device) : d.evalDoorAgree.svc.status = d.svc.status := by
  unfold Device.evalDoorAgree; dsimp only; repeat' split
  all_goals simp
@[simp] theorem evalDoorAgree_route_dRoute (d : Device) : d.evalDoorAgree.route.dRoute = d.route.dRoute := by
  unfold Device.evalDoorAgree; dsimp only; repeat' split
  all_goals simp
@[simp] theorem evalDoorAgree_route_zones (d : Device) : d.evalDoorAgree.route.zones = d.route.zones := by
  unfold Device.evalDoorAgree; dsimp only; repeat' split
  all_goals simp
@[simp] theorem evalDoorAgree_route_eRes (d : Device) : d.evalDoorAgree.route.eRes = d.route.eRes := by
  unfold Device.evalDoorAgree; dsimp only; repeat' split
  all_goals simp

/-! ## evalDoorDisagree -/

@[simp] theorem evalDoorDisagree_inReset (d : Device) : d.evalDoorDisagree.inReset = d.inReset := by
  unfold Device.evalDoorDisagree; dsimp only; repeat' split
  all_goals simp
@[simp] theorem evalDoorDisagree_ignLine (d : Device) : d.evalDoorDisagree.ignLine = d.ignLine := by
  unfold Device.evalDoorDisagree; dsimp only; repeat' split
  all_goals simp
@[simp] theorem evalDoorDisagree_doorLine (d : Device) : d.evalDoorDisagree.doorLine = d.doorLine := by
  unfold Device.evalDoorDisagree; dsimp only; repeat' split
  all_goals simp
@[simp] theorem evalDoorDisagree_account (d : Device) : d.evalDoorDisagree.account = d.account := by
  unfold Device.evalDoorDisagree; dsimp only; repeat' split
  all_goals simp
@[simp] theorem evalDoorDisagree_wear (d : Device) : d.evalDoorDisagree.wear = d.wear := by
  unfold Device.evalDoorDisagree; dsimp only; repeat' split
  all_goals simp
@[simp] theorem evalDoorDisagree_nv (d : Device) : d.evalDoorDisagree.nv = d.nv := by
  unfold Device.evalDoorDisagree; dsimp only; repeat' split
  all_goals simp
@[simp] theorem evalDoorDisagree_params (d : Device) : d.evalDoorDisagree.params = d.params := by
  unfold Device.evalDoorDisagree; dsimp only; repeat' split
  all_goals simp
@[simp] theorem evalDoorDisagree_runClock (d : Device) : d.evalDoorDisagree.runClock = d.runClock := by
  unfold Device.evalDoorDisagree; dsimp only; repeat' split
  all_goals simp
@[simp] theorem evalDoorDisagree_clockLeft (d : Device) : d.evalDoorDisagree.clockLeft = d.clockLeft := by
  unfold Device.evalDoorDisagree; dsimp only; repeat' split
  all_goals simp
@[simp] theorem evalDoorDisagree_svc_presence (d : Device) : d.evalDoorDisagree.svc.presence = d.svc.presence := by
  unfold Device.evalDoorDisagree; dsimp only; repeat' split
  all_goals simp
@[simp] theorem evalDoorDisagree_svc_status (d : Device) : d.evalDoorDisagree.svc.status = d.svc.status := by
  unfold Device.evalDoorDisagree; dsimp only; repeat' split
  all_goals simp
@[simp] theorem evalDoorDisagree_route_dRoute (d : Device) : d.evalDoorDisagree.route.dRoute = d.route.dRoute := by
  unfold Device.evalDoorDisagree; dsimp only; repeat' split
  all_goals simp
@[simp] theorem evalDoorDisagree_route_zones (d : Device) : d.evalDoorDisagree.route.zones = d.route.zones := by
  unfold Device.evalDoorDisagree; dsimp only; repeat' split
  all_goals simp
@[simp] theorem evalDoorDisagree_route_eRes (d : Device) : d.evalDoorDisagree.route.eRes = d.route.eRes := by
  unfold Device.evalDoorDisagree; dsimp only; repeat' split
  all_goals simp

/-! ## doorEvents -/

@[simp] theorem doorEvents_inReset (d : Device) : d.doorEvents.inReset = d.inReset := by
  simp [Device.doorEvents]
@[simp] theorem doorEvents_ignLine (d : Device) : d.doorEvents.ignLine = d.ignLine := by
  simp [Device.doorEvents]
@[simp] theorem doorEvents_doorLine (d : Device) : d.doorEvents.doorLine = d.doorLine := by
  simp [Device.doorEvents]
@[simp] theorem doorEvents_account (d : Device) : d.doorEvents.account = d.account := by
  simp [Device.doorEvents]
@[simp] theorem doorEvents_wear (d : Device) : d.doorEvents.wear = d.wear := by
  simp [Device.doorEvents]
@[simp] theorem doorEvents_nv (d : Device) : d.doorEvents.nv = d.nv := by
  simp [Device.doorEvents]
@[simp] theorem doorEvents_params (d : Device) : d.doorEvents.params = d.params := by
  simp [Device.doorEvents]
@[simp] theorem doorEvents_runClock (d : Device) : d.doorEvents.runClock = d.runClock := by
  simp [Device.doorEvents]
@[simp] theorem doorEvents_clockLeft (d : Device) : d.doorEvents.clockLeft = d.clockLeft := by
  simp [Device.doorEvents]
@[simp] theorem doorEvents_svc_presence (d : Device) : d.doorEvents.svc.presence = d.svc.presence := by
  simp [Device.doorEvents]
@[simp] theorem doorEvents_svc_status (d : Device) : d.doorEvents.svc.status = d.svc.status := by
  simp [Device.doorEvents]
@[simp] theorem doorEvents_route_dRoute (d : Device) : d.doorEvents.route.dRoute = d.route.dRoute := by
  simp [Device.doorEvents]
@[simp] theorem doorEvents_route_zones (d : Device) : d.doorEvents.route.zones = d.route.zones := by
  simp [Device.doorEvents]
@[simp] theorem doorEvents_route_eRes (d : Device) : d.doorEvents.route.eRes = d.route.eRes := by
  simp [Device.doorEvents]

/-! ## vehFlags -/

@[simp] theorem vehFlags_inReset (d : Device) (f : VehFlags) : (d.vehFlags f).inReset = d.inReset := by
  unfold Device.vehFlags; dsimp only; split <;> simp
@[simp] theorem vehFlags_ignLine (d : Device) (f : VehFlags) : (d.vehFlags f).ignLine = d.ignLine := by
  unfold Device.vehFlags; dsimp only; split <;> simp
@[simp] theorem vehFlags_doorLine (d : Device) (f : VehFlags) : (d.vehFlags f).doorLine = d.doorLine := by
  unfold Device.vehFlags; dsimp only; split <;> simp
@[simp] theorem vehFlags_account (d : Device) (f : VehFlags) : (d.vehFlags f).account = d.account := by
  unfold Device.vehFlags; dsimp only; split <;> simp
@[simp] theorem vehFlags_wear (d : Device) (f : VehFlags) : (d.vehFlags f).wear = d.wear := by
  unfold Device.vehFlags; dsimp only; split <;> simp
@[simp] theorem vehFlags_nv (d : Device) (f : VehFlags) : (d.vehFlags f).nv = d.nv := by
  unfold Device.vehFlags; dsimp only; split <;> simp
@[simp] theorem vehFlags_params (d : Device) (f : VehFlags) : (d.vehFlags f).params = d.params := by
  unfold Device.vehFlags; dsimp only; split <;> simp
@[simp] theorem vehFlags_runClock (d : Device) (f : VehFlags) : (d.vehFlags f).runClock = d.runClock := by
  unfold Device.vehFlags; dsimp only; split <;> simp
@[simp] theorem vehFlags_clockLeft (d : Device) (f : VehFlags) : (d.vehFlags f).clockLeft = d.clockLeft := by
  unfold Device.vehFlags; dsimp only; split <;> simp
@[simp] theorem vehFlags_svc_presence (d : Device) (f : VehFlags) :
    (d.vehFlags f).svc.presence = d.svc.presence := by
  unfold Device.vehFlags; dsimp only; split <;> simp
@[simp] theorem vehFlags_svc_status (d : Device) (f : VehFlags) : (d.vehFlags f).svc.status = d.svc.status := by
  unfold Device.vehFlags; dsimp only; split <;> simp
@[simp] theorem vehFlags_route_dRoute (d : Device) (f : VehFlags) :
    (d.vehFlags f).route.dRoute = d.route.dRoute := by
  unfold Device.vehFlags; dsimp only; split <;> simp
@[simp] theorem vehFlags_route_zones (d : Device) (f : VehFlags) : (d.vehFlags f).route.zones = d.route.zones := by
  unfold Device.vehFlags; dsimp only; split <;> simp
@[simp] theorem vehFlags_route_eRes (d : Device) (f : VehFlags) : (d.vehFlags f).route.eRes = d.route.eRes := by
  unfold Device.vehFlags; dsimp only; split <;> simp

/-! ## linkReport -/

@[simp] theorem linkReport_inReset (d : Device) (m : Member) (c : LinkChange) :
    (d.linkReport m c).inReset = d.inReset := by
  unfold Device.linkReport; dsimp only; by_cases h : m = .veh
  all_goals simp only [h, if_true, if_false]; repeat' split
  all_goals simp
@[simp] theorem linkReport_ignLine (d : Device) (m : Member) (c : LinkChange) :
    (d.linkReport m c).ignLine = d.ignLine := by
  unfold Device.linkReport; dsimp only; by_cases h : m = .veh
  all_goals simp only [h, if_true, if_false]; repeat' split
  all_goals simp
@[simp] theorem linkReport_doorLine (d : Device) (m : Member) (c : LinkChange) :
    (d.linkReport m c).doorLine = d.doorLine := by
  unfold Device.linkReport; dsimp only; by_cases h : m = .veh
  all_goals simp only [h, if_true, if_false]; repeat' split
  all_goals simp
@[simp] theorem linkReport_account (d : Device) (m : Member) (c : LinkChange) :
    (d.linkReport m c).account = d.account := by
  unfold Device.linkReport; dsimp only; by_cases h : m = .veh
  all_goals simp only [h, if_true, if_false]; repeat' split
  all_goals simp
@[simp] theorem linkReport_wear (d : Device) (m : Member) (c : LinkChange) : (d.linkReport m c).wear = d.wear := by
  unfold Device.linkReport; dsimp only; by_cases h : m = .veh
  all_goals simp only [h, if_true, if_false]; repeat' split
  all_goals simp
@[simp] theorem linkReport_nv (d : Device) (m : Member) (c : LinkChange) : (d.linkReport m c).nv = d.nv := by
  unfold Device.linkReport; dsimp only; by_cases h : m = .veh
  all_goals simp only [h, if_true, if_false]; repeat' split
  all_goals simp
@[simp] theorem linkReport_params (d : Device) (m : Member) (c : LinkChange) :
    (d.linkReport m c).params = d.params := by
  unfold Device.linkReport; dsimp only; by_cases h : m = .veh
  all_goals simp only [h, if_true, if_false]; repeat' split
  all_goals simp
@[simp] theorem linkReport_runClock (d : Device) (m : Member) (c : LinkChange) :
    (d.linkReport m c).runClock = d.runClock := by
  unfold Device.linkReport; dsimp only; by_cases h : m = .veh
  all_goals simp only [h, if_true, if_false]; repeat' split
  all_goals simp
@[simp] theorem linkReport_clockLeft (d : Device) (m : Member) (c : LinkChange) :
    (d.linkReport m c).clockLeft = d.clockLeft := by
  unfold Device.linkReport; dsimp only; by_cases h : m = .veh
  all_goals simp only [h, if_true, if_false]; repeat' split
  all_goals simp
@[simp] theorem linkReport_svc_presence (d : Device) (m : Member) (c : LinkChange) :
    (d.linkReport m c).svc.presence = d.svc.presence := by
  unfold Device.linkReport; dsimp only; by_cases h : m = .veh
  all_goals simp only [h, if_true, if_false]; repeat' split
  all_goals simp
@[simp] theorem linkReport_svc_status (d : Device) (m : Member) (c : LinkChange) :
    (d.linkReport m c).svc.status = d.svc.status := by
  unfold Device.linkReport; dsimp only; by_cases h : m = .veh
  all_goals simp only [h, if_true, if_false]; repeat' split
  all_goals simp
@[simp] theorem linkReport_route_dRoute (d : Device) (m : Member) (c : LinkChange) :
    (d.linkReport m c).route.dRoute = d.route.dRoute := by
  unfold Device.linkReport; dsimp only; by_cases h : m = .veh
  all_goals simp only [h, if_true, if_false]; repeat' split
  all_goals simp
@[simp] theorem linkReport_route_zones (d : Device) (m : Member) (c : LinkChange) :
    (d.linkReport m c).route.zones = d.route.zones := by
  unfold Device.linkReport; dsimp only; by_cases h : m = .veh
  all_goals simp only [h, if_true, if_false]; repeat' split
  all_goals simp
@[simp] theorem linkReport_route_eRes (d : Device) (m : Member) (c : LinkChange) :
    (d.linkReport m c).route.eRes = d.route.eRes := by
  unfold Device.linkReport; dsimp only; by_cases h : m = .veh
  all_goals simp only [h, if_true, if_false]; repeat' split
  all_goals simp

/-! ## wakeSlow -/

@[simp] theorem wakeSlow_inReset (d : Device) : d.wakeSlow.inReset = d.inReset := by
  simp [Device.wakeSlow]
@[simp] theorem wakeSlow_ignLine (d : Device) : d.wakeSlow.ignLine = d.ignLine := by
  simp [Device.wakeSlow]
@[simp] theorem wakeSlow_doorLine (d : Device) : d.wakeSlow.doorLine = d.doorLine := by
  simp [Device.wakeSlow]
@[simp] theorem wakeSlow_account (d : Device) : d.wakeSlow.account = d.account := by
  simp [Device.wakeSlow]
@[simp] theorem wakeSlow_wear (d : Device) : d.wakeSlow.wear = d.wear := by
  simp [Device.wakeSlow]
@[simp] theorem wakeSlow_nv (d : Device) : d.wakeSlow.nv = d.nv := by
  simp [Device.wakeSlow]
@[simp] theorem wakeSlow_params (d : Device) : d.wakeSlow.params = d.params := by
  simp [Device.wakeSlow]
@[simp] theorem wakeSlow_runClock (d : Device) : d.wakeSlow.runClock = d.runClock := by
  simp [Device.wakeSlow]
@[simp] theorem wakeSlow_clockLeft (d : Device) : d.wakeSlow.clockLeft = d.clockLeft := by
  simp [Device.wakeSlow]
@[simp] theorem wakeSlow_svc_presence (d : Device) : d.wakeSlow.svc.presence = d.svc.presence := by
  simp [Device.wakeSlow]
@[simp] theorem wakeSlow_svc_status (d : Device) : d.wakeSlow.svc.status = d.svc.status := by
  simp [Device.wakeSlow]
@[simp] theorem wakeSlow_route_dRoute (d : Device) : d.wakeSlow.route.dRoute = d.route.dRoute := by
  simp [Device.wakeSlow]
@[simp] theorem wakeSlow_route_zones (d : Device) : d.wakeSlow.route.zones = d.route.zones := by
  simp [Device.wakeSlow]
@[simp] theorem wakeSlow_route_eRes (d : Device) : d.wakeSlow.route.eRes = d.route.eRes := by
  simp [Device.wakeSlow]

/-! ## leaveHalt -/

@[simp] theorem leaveHalt_inReset (d : Device) : d.leaveHalt.inReset = d.inReset := by
  unfold Device.leaveHalt; dsimp only; split <;> split <;> simp
@[simp] theorem leaveHalt_ignLine (d : Device) : d.leaveHalt.ignLine = d.ignLine := by
  unfold Device.leaveHalt; dsimp only; split <;> split <;> simp
@[simp] theorem leaveHalt_doorLine (d : Device) : d.leaveHalt.doorLine = d.doorLine := by
  unfold Device.leaveHalt; dsimp only; split <;> split <;> simp
@[simp] theorem leaveHalt_account (d : Device) : d.leaveHalt.account = d.account := by
  unfold Device.leaveHalt; dsimp only; split <;> split <;> simp
@[simp] theorem leaveHalt_wear (d : Device) : d.leaveHalt.wear = d.wear := by
  unfold Device.leaveHalt; dsimp only; split <;> split <;> simp
@[simp] theorem leaveHalt_nv (d : Device) : d.leaveHalt.nv = d.nv := by
  unfold Device.leaveHalt; dsimp only; split <;> split <;> simp
@[simp] theorem leaveHalt_params (d : Device) : d.leaveHalt.params = d.params := by
  unfold Device.leaveHalt; dsimp only; split <;> split <;> simp
@[simp] theorem leaveHalt_runClock (d : Device) : d.leaveHalt.runClock = d.runClock := by
  unfold Device.leaveHalt; dsimp only; split <;> split <;> simp
@[simp] theorem leaveHalt_clockLeft (d : Device) : d.leaveHalt.clockLeft = d.clockLeft := by
  unfold Device.leaveHalt; dsimp only; split <;> split <;> simp
@[simp] theorem leaveHalt_svc_presence (d : Device) : d.leaveHalt.svc.presence = d.svc.presence := by
  unfold Device.leaveHalt; dsimp only; split <;> split <;> simp
@[simp] theorem leaveHalt_svc_status (d : Device) : d.leaveHalt.svc.status = d.svc.status := by
  unfold Device.leaveHalt; dsimp only; split <;> split <;> simp
@[simp] theorem leaveHalt_route_dRoute (d : Device) : d.leaveHalt.route.dRoute = d.route.dRoute := by
  unfold Device.leaveHalt; dsimp only; split <;> split <;> simp
@[simp] theorem leaveHalt_route_zones (d : Device) : d.leaveHalt.route.zones = d.route.zones := by
  unfold Device.leaveHalt; dsimp only; split <;> split <;> simp
@[simp] theorem leaveHalt_route_eRes (d : Device) : d.leaveHalt.route.eRes = d.route.eRes := by
  unfold Device.leaveHalt; dsimp only; split <;> split <;> simp

/-! ## reportDisagree -/

@[simp] theorem reportDisagree_inReset (d : Device) : d.reportDisagree.inReset = d.inReset := by
  simp [Device.reportDisagree]
@[simp] theorem reportDisagree_ignLine (d : Device) : d.reportDisagree.ignLine = d.ignLine := by
  simp [Device.reportDisagree]
@[simp] theorem reportDisagree_doorLine (d : Device) : d.reportDisagree.doorLine = d.doorLine := by
  simp [Device.reportDisagree]
@[simp] theorem reportDisagree_account (d : Device) : d.reportDisagree.account = d.account := by
  simp [Device.reportDisagree]
@[simp] theorem reportDisagree_wear (d : Device) : d.reportDisagree.wear = d.wear := by
  simp [Device.reportDisagree]
@[simp] theorem reportDisagree_nv (d : Device) : d.reportDisagree.nv = d.nv := by
  simp [Device.reportDisagree]
@[simp] theorem reportDisagree_params (d : Device) : d.reportDisagree.params = d.params := by
  simp [Device.reportDisagree]
@[simp] theorem reportDisagree_runClock (d : Device) : d.reportDisagree.runClock = d.runClock := by
  simp [Device.reportDisagree]
@[simp] theorem reportDisagree_clockLeft (d : Device) : d.reportDisagree.clockLeft = d.clockLeft := by
  simp [Device.reportDisagree]
@[simp] theorem reportDisagree_svc_presence (d : Device) : d.reportDisagree.svc.presence = d.svc.presence := by
  simp [Device.reportDisagree]
@[simp] theorem reportDisagree_svc_status (d : Device) : d.reportDisagree.svc.status = d.svc.status := by
  simp [Device.reportDisagree]
@[simp] theorem reportDisagree_route_dRoute (d : Device) : d.reportDisagree.route.dRoute = d.route.dRoute := by
  simp [Device.reportDisagree]
@[simp] theorem reportDisagree_route_zones (d : Device) : d.reportDisagree.route.zones = d.route.zones := by
  simp [Device.reportDisagree]
@[simp] theorem reportDisagree_route_eRes (d : Device) : d.reportDisagree.route.eRes = d.route.eRes := by
  simp [Device.reportDisagree]

/-! ## shutdownExpires -/

@[simp] theorem shutdownExpires_inReset (d : Device) : d.shutdownExpires.inReset = d.inReset := by
  simp [Device.shutdownExpires]
@[simp] theorem shutdownExpires_ignLine (d : Device) : d.shutdownExpires.ignLine = d.ignLine := by
  simp [Device.shutdownExpires]
@[simp] theorem shutdownExpires_doorLine (d : Device) : d.shutdownExpires.doorLine = d.doorLine := by
  simp [Device.shutdownExpires]
@[simp] theorem shutdownExpires_account (d : Device) : d.shutdownExpires.account = d.account := by
  simp [Device.shutdownExpires]
@[simp] theorem shutdownExpires_wear (d : Device) : d.shutdownExpires.wear = d.wear := by
  simp [Device.shutdownExpires]
@[simp] theorem shutdownExpires_nv (d : Device) : d.shutdownExpires.nv = d.nv := by
  simp [Device.shutdownExpires]
@[simp] theorem shutdownExpires_params (d : Device) : d.shutdownExpires.params = d.params := by
  simp [Device.shutdownExpires]
@[simp] theorem shutdownExpires_runClock (d : Device) : d.shutdownExpires.runClock = d.runClock := by
  simp [Device.shutdownExpires]
@[simp] theorem shutdownExpires_clockLeft (d : Device) : d.shutdownExpires.clockLeft = d.clockLeft := by
  simp [Device.shutdownExpires]
@[simp] theorem shutdownExpires_svc_presence (d : Device) : d.shutdownExpires.svc.presence = d.svc.presence := by
  simp [Device.shutdownExpires]
@[simp] theorem shutdownExpires_svc_status (d : Device) : d.shutdownExpires.svc.status = d.svc.status := by
  simp [Device.shutdownExpires]
@[simp] theorem shutdownExpires_route_dRoute (d : Device) : d.shutdownExpires.route.dRoute = d.route.dRoute := by
  simp [Device.shutdownExpires]
@[simp] theorem shutdownExpires_route_zones (d : Device) : d.shutdownExpires.route.zones = d.route.zones := by
  simp [Device.shutdownExpires]
@[simp] theorem shutdownExpires_route_eRes (d : Device) : d.shutdownExpires.route.eRes = d.route.eRes := by
  simp [Device.shutdownExpires]

/-! ## moveLink -/

@[simp] theorem moveLink_inReset (d : Device) (m : Member) (l : Link) : (d.moveLink m l).inReset = d.inReset := by
  simp [Device.moveLink]
@[simp] theorem moveLink_ignLine (d : Device) (m : Member) (l : Link) : (d.moveLink m l).ignLine = d.ignLine := by
  simp [Device.moveLink]
@[simp] theorem moveLink_doorLine (d : Device) (m : Member) (l : Link) :
    (d.moveLink m l).doorLine = d.doorLine := by
  simp [Device.moveLink]
@[simp] theorem moveLink_account (d : Device) (m : Member) (l : Link) : (d.moveLink m l).account = d.account := by
  simp [Device.moveLink]
@[simp] theorem moveLink_wear (d : Device) (m : Member) (l : Link) : (d.moveLink m l).wear = d.wear := by
  simp [Device.moveLink]
@[simp] theorem moveLink_nv (d : Device) (m : Member) (l : Link) : (d.moveLink m l).nv = d.nv := by
  simp [Device.moveLink]
@[simp] theorem moveLink_params (d : Device) (m : Member) (l : Link) : (d.moveLink m l).params = d.params := by
  simp [Device.moveLink]
@[simp] theorem moveLink_runClock (d : Device) (m : Member) (l : Link) :
    (d.moveLink m l).runClock = d.runClock := by
  simp [Device.moveLink]
@[simp] theorem moveLink_clockLeft (d : Device) (m : Member) (l : Link) :
    (d.moveLink m l).clockLeft = d.clockLeft := by
  simp [Device.moveLink]
@[simp] theorem moveLink_svc_presence (d : Device) (m : Member) (l : Link) :
    (d.moveLink m l).svc.presence = d.svc.presence := by
  simp [Device.moveLink]
@[simp] theorem moveLink_svc_status (d : Device) (m : Member) (l : Link) :
    (d.moveLink m l).svc.status = d.svc.status := by
  simp [Device.moveLink]
@[simp] theorem moveLink_route_dRoute (d : Device) (m : Member) (l : Link) :
    (d.moveLink m l).route.dRoute = d.route.dRoute := by
  simp [Device.moveLink]
@[simp] theorem moveLink_route_zones (d : Device) (m : Member) (l : Link) :
    (d.moveLink m l).route.zones = d.route.zones := by
  simp [Device.moveLink]
@[simp] theorem moveLink_route_eRes (d : Device) (m : Member) (l : Link) :
    (d.moveLink m l).route.eRes = d.route.eRes := by
  simp [Device.moveLink]

/-! ## engineLinkReport -/

@[simp] theorem engineLinkReport_inReset (d : Device) (m : Member) :
    (d.engineLinkReport m).inReset = d.inReset := by
  unfold Device.engineLinkReport; split <;> simp
@[simp] theorem engineLinkReport_ignLine (d : Device) (m : Member) :
    (d.engineLinkReport m).ignLine = d.ignLine := by
  unfold Device.engineLinkReport; split <;> simp
@[simp] theorem engineLinkReport_doorLine (d : Device) (m : Member) :
    (d.engineLinkReport m).doorLine = d.doorLine := by
  unfold Device.engineLinkReport; split <;> simp
@[simp] theorem engineLinkReport_account (d : Device) (m : Member) :
    (d.engineLinkReport m).account = d.account := by
  unfold Device.engineLinkReport; split <;> simp
@[simp] theorem engineLinkReport_wear (d : Device) (m : Member) : (d.engineLinkReport m).wear = d.wear := by
  unfold Device.engineLinkReport; split <;> simp
@[simp] theorem engineLinkReport_nv (d : Device) (m : Member) : (d.engineLinkReport m).nv = d.nv := by
  unfold Device.engineLinkReport; split <;> simp
@[simp] theorem engineLinkReport_params (d : Device) (m : Member) : (d.engineLinkReport m).params = d.params := by
  unfold Device.engineLinkReport; split <;> simp
@[simp] theorem engineLinkReport_runClock (d : Device) (m : Member) :
    (d.engineLinkReport m).runClock = d.runClock := by
  unfold Device.engineLinkReport; split <;> simp
@[simp] theorem engineLinkReport_clockLeft (d : Device) (m : Member) :
    (d.engineLinkReport m).clockLeft = d.clockLeft := by
  unfold Device.engineLinkReport; split <;> simp
@[simp] theorem engineLinkReport_svc_presence (d : Device) (m : Member) :
    (d.engineLinkReport m).svc.presence = d.svc.presence := by
  unfold Device.engineLinkReport; split <;> simp
@[simp] theorem engineLinkReport_svc_status (d : Device) (m : Member) :
    (d.engineLinkReport m).svc.status = d.svc.status := by
  unfold Device.engineLinkReport; split <;> simp
@[simp] theorem engineLinkReport_route_dRoute (d : Device) (m : Member) :
    (d.engineLinkReport m).route.dRoute = d.route.dRoute := by
  unfold Device.engineLinkReport; split <;> simp
@[simp] theorem engineLinkReport_route_zones (d : Device) (m : Member) :
    (d.engineLinkReport m).route.zones = d.route.zones := by
  unfold Device.engineLinkReport; split <;> simp
@[simp] theorem engineLinkReport_route_eRes (d : Device) (m : Member) :
    (d.engineLinkReport m).route.eRes = d.route.eRes := by
  unfold Device.engineLinkReport; split <;> simp

/-! ## changeLink -/

@[simp] theorem changeLink_inReset (d : Device) (m : Member) (l : Link) (c : LinkChange) :
    (d.changeLink m l c).inReset = d.inReset := by
  simp [Device.changeLink]
@[simp] theorem changeLink_ignLine (d : Device) (m : Member) (l : Link) (c : LinkChange) :
    (d.changeLink m l c).ignLine = d.ignLine := by
  simp [Device.changeLink]
@[simp] theorem changeLink_doorLine (d : Device) (m : Member) (l : Link) (c : LinkChange) :
    (d.changeLink m l c).doorLine = d.doorLine := by
  simp [Device.changeLink]
@[simp] theorem changeLink_account (d : Device) (m : Member) (l : Link) (c : LinkChange) :
    (d.changeLink m l c).account = d.account := by
  simp [Device.changeLink]
@[simp] theorem changeLink_wear (d : Device) (m : Member) (l : Link) (c : LinkChange) :
    (d.changeLink m l c).wear = d.wear := by
  simp [Device.changeLink]
@[simp] theorem changeLink_nv (d : Device) (m : Member) (l : Link) (c : LinkChange) :
    (d.changeLink m l c).nv = d.nv := by
  simp [Device.changeLink]
@[simp] theorem changeLink_params (d : Device) (m : Member) (l : Link) (c : LinkChange) :
    (d.changeLink m l c).params = d.params := by
  simp [Device.changeLink]
@[simp] theorem changeLink_runClock (d : Device) (m : Member) (l : Link) (c : LinkChange) :
    (d.changeLink m l c).runClock = d.runClock := by
  simp [Device.changeLink]
@[simp] theorem changeLink_clockLeft (d : Device) (m : Member) (l : Link) (c : LinkChange) :
    (d.changeLink m l c).clockLeft = d.clockLeft := by
  simp [Device.changeLink]
@[simp] theorem changeLink_svc_presence (d : Device) (m : Member) (l : Link) (c : LinkChange) :
    (d.changeLink m l c).svc.presence = d.svc.presence := by
  simp [Device.changeLink]
@[simp] theorem changeLink_svc_status (d : Device) (m : Member) (l : Link) (c : LinkChange) :
    (d.changeLink m l c).svc.status = d.svc.status := by
  simp [Device.changeLink]
@[simp] theorem changeLink_route_dRoute (d : Device) (m : Member) (l : Link) (c : LinkChange) :
    (d.changeLink m l c).route.dRoute = d.route.dRoute := by
  simp [Device.changeLink]
@[simp] theorem changeLink_route_zones (d : Device) (m : Member) (l : Link) (c : LinkChange) :
    (d.changeLink m l c).route.zones = d.route.zones := by
  simp [Device.changeLink]
@[simp] theorem changeLink_route_eRes (d : Device) (m : Member) (l : Link) (c : LinkChange) :
    (d.changeLink m l c).route.eRes = d.route.eRes := by
  simp [Device.changeLink]

end Sys2Proof.Machine
end

