-- ==== Sys2Proof/Tests/Slice0.lean ====
section
/-! SUPPORT. Named tests, each about one step or one operation, with expected results from the spec's worked examples and
tables; and for each statement with hypotheses a state and operands that meet them, clause by clause, at the ends of
their ranges. -/

set_option maxRecDepth 8000

namespace Sys2Proof.Tests

open Sys2Proof Sys2Proof.Machine

/-! ## States -/

/-- The part a command leaves. -/
def after (i : Instr) (d : Device) : Device :=
  match exec i ⟨[], d⟩ with
  | .next t => t.dev
  | .fault _ => d
  | .refused _ => d

/-- An ALIGNED link with a taken frame, which carried alive 15. -/
def up (x : Status) : Link := { Link.cleared with state := .aligned, expected := some 0, taken := some ⟨15, x⟩ }

/-- The bus in RUN, every link ALIGNED, the engine RUNNING, with the members' values of the first worked case of section
3.7. -/
def runD : Device :=
  { State.reset.dev with
    ignLine := true,
    mode :=
      { ModeCtl.cleared true with mode := .run, flags := some ⟨false, false, true⟩, dwell := 50, xcvrWake := true },
    links :=
      ⟨up (.veh true false false 1800 0), up (.eng true .running 1500), up (.bat true 2000 1500 0 9000),
        up (.trc true 2500 3000), up (.brk true false 2000 2000 154 0 0)⟩,
    alloc := { Allocator.cleared with timer := some 10 },
    account := ⟨true, 90000000⟩,
    seq := { Sequencer.cleared with state := .running, runTime := some 0, policy := some 100, engine := .running } }

/-- The bus asleep, as reset leaves it. -/
def parkD : Device := State.reset.dev

/-- A part with another mode, its other marks kept. -/
def inMode (d : Device) (m : Mode) : Device := { d with mode := { d.mode with mode := m } }

/-- A part with the sequencer in a state. -/
def inSeq (d : Device) (q : SeqState) : Device := { d with seq := { d.seq with state := q } }

/-- A part with a member link at a value. -/
def withLink (d : Device) (m : Member) (f : Link → Link) : Device := d.setLink m (f (d.link m))

/-- A part with 8 answers in every transmit queue. -/
def fullD (d : Device) : Device :=
  let q : TxQueue := ⟨List.replicate 8 (.answer 0x11 0 .done []), none, 0⟩
  { d with tx := ⟨q, q, q, q, q, q⟩ }

/-- A part whose claim of a kind stands in a state at a level, with its age timer running. -/
def withClaim (d : Device) (k : ClaimKind) (x : ClaimState) (level : Nat) (age : Timer) : Device :=
  d.setClaim k ⟨x, level, 0, age⟩

/-- HEAT_RUN HOLDING at level 1, LOW_CHARGE_RUN PENDING at level 1, FILTER_RUN SUSPENDED at level 0. -/
def claimsD : Device :=
  let d := withClaim (withClaim (withClaim runD .heatRun .holding 1 (some 5)) .lowChargeRun .pending 1 (some 5))
    .filterRun .suspended 0 (some 5)
  { d with arbiter := { d.arbiter with stack := [.filterRun] } }

/-- An EMISSION_FREE entry from 100 m times its id on, AHEAD. -/
def ahead (id : Nat) : Zone := ⟨id, .emissionFree, 100 * id, 50, 100, false⟩

/-- A part with a zone queue. -/
def withZones (d : Device) (zs : List Zone) : Device := { d with route := { d.route with zones := zs } }

/-- A full zone queue, starts 100 to 800 m. -/
def eightD : Device := withZones runD ([1, 2, 3, 4, 5, 6, 7, 8].map ahead)

/-- A ring record. -/
def rec (n : Nat) : Record := ⟨BitVec.ofNat 16 n, .note, 0, 0, 0, some 1, some 0, some 0⟩

/-- A ring with 256 unread records, in a storing mode (1 for HOLD). -/
def ringFull (hold : Nat) : Device :=
  { runD with
    params := runD.params.set 64 hold,
    ring :=
      { runD.ring with
        slots := (List.range 256).map fun n => some (rec n), head := 256, tail := 0, cursor := 0, seq := 256 } }

/-- The part held in reset. -/
def heldD : Device := { parkD with inReset := true }

/-- A part with the block's write outstanding, and one with LINING_R's. -/
def writingD (d : Device) (w : NvWrite) : Device := { d with nv := { d.nv with writing := some w, left := some 5 } }

/-- The values a cycle reads in the first worked case of section 3.7. -/
def traction : CycleIn :=
  { mode := .run, pDem := 1800, lim := ⟨2000, 1500, 1500, 2500, 3000, 2000, 2000⟩, kBw := 228, anchored := true,
    eBat := 90000000, eRes := 80000000, eFloor := 20000000, eBand := 20000000, eLift := 30000000,
    insideEmissionFree := false, insideQuiet := false, running := true, minLoad := 0, lowCharge := false, pCreep := 300,
    pQuiet := 600, brkUsable := true, brkFrozen := false, slip := false, sB := 154, wornF := true, wornR := false,
    w := 16, sLo := 64, sHi := 192, pRegmax := 2500, rUp := 50, rPrev := 0 }

/-- The values of the worked braking cases of chapter 4: B = 2400, P_bc1 = 1335, R_prev = 1200. -/
def braking : CycleIn := { traction with pDem := -2400, rPrev := 1200 }

/-- A part with a timed or counted field of the sequencer changed. -/
def withSeq (d : Device) (f : Sequencer → Sequencer) : Device := { d with seq := f d.seq }

/-- A part with a field of the mode controller changed. -/
def withMode (d : Device) (f : ModeCtl → ModeCtl) : Device := { d with mode := f d.mode }

/-- A part whose working copy holds a value at a parameter. -/
def withParam (d : Device) (n v : Nat) : Device := { d with params := d.params.set n v }

/-- The last frame in a port's queue. -/
def lastFrame (d : Device) (p : Port) : Option TxFrame := (d.txq p).frames.getLast?

/-! ## Well-formedness -/

theorem test_wf_refuses_named_kind : (Instr.unknownRequest .svc 0x10 0).wf = false := by decide
theorem test_wf_refuses_last_named_kind : (Instr.unknownRequest .svc 0x22 0).wf = false := by decide
theorem test_wf_refuses_status_kind : (Instr.unknownRequest .veh 0x01 0).wf = false := by decide
theorem test_wf_accepts_grant_kind : (Instr.unknownRequest .veh 0x02 0).wf = true := by decide
theorem test_wf_refuses_fixed_age : (Instr.claimExpired .zoneStop).wf = false := by decide
theorem test_wf_accepts_configured_age : (Instr.claimExpired .haltStop).wf = true := by decide

/-! ## Frames (section 6 of the scope, R1, R180) -/

/-- The check value the scope gives for the CRC-8. -/
theorem test_crc_check_value : crc8 [0x31, 0x32, 0x33, 0x34, 0x35, 0x36, 0x37, 0x38, 0x39] = 0xB4 := by decide

/-- A received frame: its bytes from byte 0, filled with zeros to byte 30, and their CRC-8. -/
def frame (bs : List Byte) : List Byte := withCrc (padTo 31 bs)

theorem test_receive_veh_status :
    receiveFrame .veh (frame [0x01, 0x51, 0x82, 0x08, 0x07, 0x19]) =
      .statusFrame 5 (.veh true false true 1800 25) := by decide +kernel
theorem test_receive_bat_status :
    receiveFrame .bat (frame [0x01, 0xF3, 0x00, 0xD0, 0x07, 0xDC, 0x05, 0x88, 0xFA, 0x28, 0x23]) =
      .statusFrame 15 (.bat false 2000 1500 (BitVec.ofInt 16 (-1400)) 9000) := by decide +kernel
theorem test_receive_brk_status :
    receiveFrame .brk (frame [0x01, 0x05, 0x81, 0xD0, 0x07, 0xD1, 0x07, 0x9A, 0xBC, 0x02, 0xBD, 0x02]) =
      .statusFrame 0 (.brk true true 2000 2001 154 700 701) := by decide +kernel
theorem test_receive_zone_add :
    receiveFrame .veh
        (frame [0x12, 0x01, 0x2A, 0x07, 0x02, 0x10, 0x27, 0x00, 0x00, 0x90, 0x01, 0xF4, 0x01]) =
      .zoneAdd .veh 0x2A 7 2 10000 400 500 := by decide +kernel
theorem test_receive_config_write :
    receiveFrame .svc (frame [0x18, 0x06, 0x33, 0x09, 0x05]) = .configWrite .svc 0x33 9 5 := by decide +kernel
theorem test_receive_ring_config :
    receiveFrame .svc
        (frame [0x1A, 0x06, 0x44, 0x01, 0xC0, 0x00, 0xFF, 0xFF, 0x03, 0x00, 0x04, 0x00, 0x05, 0x00, 0x06, 0x00, 0x01]) =
      .ringConfig .svc 0x44 1 192 65535 3 4 5 6 1 := by decide +kernel
theorem test_receive_grant_kind : receiveFrame .eng (frame [0x02, 0x02, 0x09]) = .unknownRequest .eng 2 9 := by decide +kernel
/-- A frame that names another port fails the check of R1. -/
theorem test_receive_wrong_port : receiveFrame .eng (frame [0x01, 0x01]) = .badFrameReceived .eng 1 := by decide +kernel

/-! ## Worked cases of the allocation (sections 3.3 to 3.7, 4.2 to 4.5) -/

theorem test_traction_case :
    (traction.pBd1, traction.pBc1, traction.pBd2, traction.allocate.pT, traction.allocate.pG, traction.allocate.pB) =
      (1781, 1335, 890, 1800, 1500, 300) := by decide
/-- The case below the reserve, while cranking. -/
theorem test_traction_cranking :
    let c := { traction with eBat := 79000000, running := false }
    (c.allocate.pT, c.allocate.pG, c.tractionLimited) = (0, 0, true) := by decide
/-- Creep in LIMITED through a quiet zone with a filter run. -/
theorem test_traction_creep :
    let c :=
      { traction with mode := .limited, kBw := 256, eBat := 85000000, insideQuiet := true, minLoad := 800 }
    (c.pBd2, c.allocate.pT, c.allocate.pG, c.allocate.pB, c.unmet, c.tractionLimited) =
      (500, 300, 600, -300, true, false) := by decide
theorem test_taper_rounds_down :
    ({ traction with eBat := 99990000 } : CycleIn).pBd2 = 1774 ∧ ({ traction with eBat := 100000000 } : CycleIn).pBd2 = 1781 := by
  decide
/-- Case 1 of the worked braking cases. -/
theorem test_braking_case :
    (braking.allocate.r, braking.allocate.share, braking.allocate.fF, braking.allocate.fR, braking.allocate.s) =
      (1250, 138, 620, 530, 0) := by decide
/-- Wheel-slip control withdraws regeneration at once. -/
theorem test_braking_slip :
    let c := { braking with slip := true }
    (c.allocate.r, c.allocate.fF, c.allocate.fR) = (0, 1294, 1106) := by decide
/-- Both axles at their capacities: the rest is the shortfall. -/
theorem test_braking_shortfall :
    let c := { braking with lim := ⟨2000, 1500, 1500, 2500, 3000, 500, 400⟩ }
    (c.allocate.r, c.allocate.fF, c.allocate.fR, c.allocate.s) = (1250, 500, 400, 250) := by decide
/-- A held filter run takes its minimum load out of the charge room (R65). -/
theorem test_braking_filter_run :
    let c := { braking with minLoad := 800 }
    (c.allocate.pG, c.room, c.allocate.pB) = (800, 535, -1335) := by decide
theorem test_derate_band : kBw defaultParams ⟨249999, 0, .normal, false, none⟩ = 228
    ∧ kBw defaultParams ⟨250000, 0, .normal, false, none⟩ = 216 := by decide

/-! ## Commands, one step each -/

/-- Good, duplicate, gap of one, gap of two, sequence error: the alive delta 1, 0, 2, 3 and 4 (R3). -/
theorem test_alive_judgements :
    [0, 15, 1, 2, 3].map (fun a =>
        let l := (after (.statusFrame a (.trc false 2500 3000)) runD).link .trc
        (l.expected, l.unread.length, l.counters.gaps, l.counters.sequence, l.freeze)) =
      [(some 1, 1, 0, 0, false), (some 0, 0, 0, 0, false), (some 2, 1, 1, 0, true), (some 3, 1, 1, 0, true),
        (some 4, 0, 0, 1, true)] := by decide
/-- Reported limits above their range are clamped at arrival (R4). -/
theorem test_status_frame_clamps :
    ((after (.statusFrame 0 (.trc false 3501 4001)) runD).link .trc).unread = [⟨0, .trc false 3500 4000⟩] := by decide
theorem test_bad_frame_counts :
    let l := (after (.badFrameReceived .trc 1) runD).link .trc
    (l.counters.check, l.freeze, (after (.badFrameReceived .svc 0x16) runD).svc.presence) = (1, true, none) := by decide
theorem test_svc_status_frame : (after .svcStatusFrame runD).svc = ⟨some 5000, some 100, 0⟩ := by decide
theorem test_service_presence_expiry :
    (after .servicePresenceExpiry { runD with svc := ⟨some 0, some 40, 7⟩ }).svc = ⟨none, none, 7⟩ := by decide
theorem test_service_status :
    let d := after .serviceStatus { runD with svc := ⟨some 4000, some 0, 0⟩ }
    (d.tx.svc.frames, d.svc.status) = ([.serviceStatus], some 100) := by decide
theorem test_unknown_request :
    lastFrame (after (.unknownRequest .veh 0x02 9) runD) .veh = some (.answer 2 9 .unknown []) := by decide
/-- The check order of R176: a full queue first. -/
theorem test_full_queue_discards :
    let d := after (.note .veh 1 0 0) (fullD runD)
    ((d.link .veh).counters.overruns, d.tx.veh.frames.length, d.ring.seq) = (1, 8, 1) := by decide
/-- A first holder; and its minimum load clamped to 2500 (R109). -/
theorem test_claim_clamps_load :
    let d := after (.claim .eng 4 6 2501) runD
    (d.claim .filterRun, lastFrame d .eng) =
      (⟨.holding, 1, 2500, none⟩, some (.answer 0x10 4 .clamped [⟨2, 2500⟩])) := by decide
/-- LOW_CHARGE_RUN, level 2, pre-empts HEAT_RUN, level 1 (R110). -/
theorem test_claim_preempts :
    let d := after (.claim .bat 4 5 0) (withClaim runD .heatRun .holding 1 none)
    ((d.claim .lowChargeRun).state, (d.claim .heatRun).state, d.arbiter.stack) =
      (.holding, .suspended, [.heatRun]) := by decide
/-- The successor of a released holder: the PENDING claim of the higher level before the stack's top (R113). -/
theorem test_release_hands_on :
    let d := after (.release .veh 4 7) claimsD
    (d.arbiter.holder, d.arbiter.stack, (d.claim .heatRun).state) = (some .lowChargeRun, [.filterRun], .idle) := by decide
theorem test_claim_expired_notifies :
    let d := after (.claimExpired .heatRun) claimsD
    (d.arbiter.holder, d.notices.veh.hasPulse .claimExpired) = (some .lowChargeRun, true) := by decide

/-- The part of the normative case of section 5.8, its odometer at a distance. -/
def routeD (m : Nat) : Device :=
  let d := { runD with route := { runD.route with dRoute := 100 * m } }
  let add (tag id kind : Byte) (start : Word32) (length estimate : Word16) (d : Device) : Device :=
    after (.zoneAdd .veh tag id kind start length estimate) d
  add 3 12 2 9000 2000 1500 (add 2 9 1 3500 800 0 (add 1 7 2 1200 3000 2500 (withParam d 11 32)))

/-- The reserve along the route, at the distances of the table at which zone 7 has been passed or not. -/
theorem test_reserve_along_the_route :
    [0, 1100, 1200, 2700, 3500, 4000].map (fun m => (routeD m).route.eRes) =
        [48125000, 48125000, 48125000, 34062500, 26562500, 38750000]
      ∧ [4200, 4300, 8900, 9000, 10000].map (fun m => (routeD m).route.eRes) =
        [36875000, 36875000, 36875000, 36875000, 28437500] := by
  refine ⟨?_, ?_⟩ <;> decide
theorem test_zone_stop_along_the_route :
    [0, 1100, 4000, 4200, 8900].map (fun m => (routeD m).route.stopRaised) = [false, true, true, false, true] := by
  decide

/-- The full queue of section 5.8: ids 1 to 8, starts 1000 to 7000 and 7000 m, the odometer at 500 m. -/
def exampleQueue : Device :=
  let zs := [(1, 1000), (2, 2000), (3, 3000), (4, 4000), (5, 5000), (6, 6000), (7, 7000), (8, 7000)].map fun x =>
    (⟨x.1, .quiet, x.2, 100, 0, false⟩ : Zone)
  { runD with route := { runD.route with dRoute := 50000, zones := zs } }

/-- The ids in the queue and the last answer's code. -/
def queueView (d : Device) : List Nat × Option TxFrame := (d.route.zones.map Zone.id, lastFrame d .veh)

theorem test_zone_add_refused_full :
    queueView (after (.zoneAdd .veh 1 20 1 7000 100 0) exampleQueue) =
      ([1, 2, 3, 4, 5, 6, 7, 8], some (.answer 0x12 1 .refusedFull [])) := by decide
theorem test_zone_add_drops_and_replaces :
    let d := after (.zoneAdd .veh 2 21 1 2500 100 0) exampleQueue
    queueView d = ([1, 2, 21, 3, 4, 5, 6, 7], some (.answer 0x12 2 .done [⟨2, 100⟩]))
      ∧ queueView (after (.zoneAdd .veh 3 5 1 800 100 0) d) =
        ([5, 1, 2, 21, 3, 4, 6, 7], some (.answer 0x12 3 .done [⟨2, 100⟩])) := by decide
theorem test_zone_add_passed :
    (queueView (after (.zoneAdd .veh 4 22 1 200 0 0) exampleQueue)).2 = some (.answer 0x12 4 .passed []) := by decide
theorem test_zone_cancel_not_found :
    (queueView (after (.zoneCancel .veh 5 22) exampleQueue)).2 = some (.answer 0x13 5 .notFound []) := by decide
theorem test_zone_cancel_removes :
    (queueView (after (.zoneCancel .veh 5 8) exampleQueue)).1 = [1, 2, 3, 4, 5, 6, 7] := by decide
theorem test_route_reset :
    let d := after (.routeReset .veh 1) (routeD 1200)
    (d.route.zones, d.route.dRoute, d.route.eRes, d.notices.veh.hasPulse .zoneLeft) = ([], 0, 20000000, true) := by decide
theorem test_resync_ends_run :
    let d := after (.resync .svc 1 4) runD
    ((d.link .trc).state, d.mode.mode) = (.aligning, .limited) := by decide
/-- In HOLD a full ring keeps its oldest record, and NOTE is told (R160, R162). -/
theorem test_note_in_hold :
    let d := after (.note .veh 7 5 6) (ringFull 1)
    (d.ring.head, d.ring.tail, d.ring.missed, lastFrame d .veh) =
      (256, 0, 1, some (.answer 0x16 7 .overwrote [⟨2, 256⟩])) := by decide
theorem test_note_in_wrap :
    let d := after (.note .veh 7 5 6) (ringFull 0)
    (d.ring.head, d.ring.tail, d.ring.missed, lastFrame d .veh) =
      (257, 1, 1, some (.answer 0x16 7 .done [⟨2, 256⟩])) := by decide
theorem test_ack_notice :
    let n : NoticeSet := ⟨1, 0b10000011, 0b1000, 0b10, 0, 0⟩
    let d := after (.ackNotice .eng 3 1) { runD with notices := { runD.notices with eng := n, veh := n } }
    (d.notices.eng, d.notices.veh, lastFrame d .eng) =
      (⟨1, 0b10000001, 0b1000, 0, 0, 0⟩, n, some (.answer 0x17 3 .done [])) := by decide
/-- A CONFIG_WRITE above its range is clamped, and its answer awaits the write (R183, R184). -/
theorem test_config_write :
    let d := after (.configWrite .svc 3 1 601) parkD
    (d.params.get 1, d.nv.blockAwaiting, d.tx.svc.frames) = (600, some (.configWrite 3 1 600 .clamped), []) := by decide
theorem test_config_write_refused_in_run :
    lastFrame (after (.configWrite .svc 3 1 10) runD) .svc = some (.answer 0x18 3 .refusedMode []) := by decide
theorem test_config_read :
    lastFrame (after (.configRead .svc 3 70) runD) .svc = some (.answer 0x19 3 .done [⟨1, 70⟩, ⟨4, 0⟩])
      ∧ lastFrame (after (.configRead .svc 3 71) runD) .svc = some (.answer 0x19 3 .unknown []) := by decide
/-- A clear leaves the CONFIG record alone in the ring; the forced enables stay on (R163, R164). -/
theorem test_ring_config_clears :
    let d := after (.ringConfig .svc 3 1 0 0 0 0 7 8 1) runD
    (d.ring.head - d.ring.tail, d.params.vals.drop 63) = (1, [1, 1, 0xC445, 3, 3, 7, 8]) := by decide
/-- A ONE_SHOT drain of 3 records places three and its answer (R167). -/
theorem test_drain_one_shot :
    let d := after (.drain .svc 9 3 1) (ringFull 0)
    (d.ring.cursor, d.ring.drain, d.tx.svc.frames.length, lastFrame d .svc) =
      (3, .idle, 4, some (.answer 0x1B 9 .done [⟨2, 3⟩, ⟨2, 2⟩])) := by decide
/-- A CONTINUOUS drain leaves one place of the queue (R166, R168). -/
theorem test_drain_continuous :
    let d := after (.drain .svc 9 50 2) (ringFull 0)
    (d.ring.cursor, d.ring.drain, d.tx.svc.frames.length) = (6, .continuous, 7) := by decide
theorem test_drain_stop :
    lastFrame (after (.drainStop .svc 2) runD) .svc = some (.answer 0x1C 2 .notHeld []) := by decide
theorem test_ring_ack :
    let d := after (.ringAck .svc 2 255) (ringFull 0)
    (d.ring.tail, d.ring.cursor, lastFrame d .svc) = (256, 256, some (.answer 0x1D 2 .done [⟨2, 256⟩])) := by decide
theorem test_wear_read :
    lastFrame (after (.wearRead .svc 2 4) runD) .svc =
      some (.answer 0x1E 2 .done [⟨1, 4⟩, ⟨1, 0⟩, ⟨4, 0⟩, ⟨4, 0⟩, ⟨4, 250000⟩, ⟨4, 300000⟩, ⟨1, 0⟩]) := by decide
/-- WEAR_SET at the warn mark makes the item WARNED, and its write starts at once (R139, R146, R149). -/
theorem test_wear_set :
    let d := after (.wearSet .svc 2 1 400000) parkD
    (d.wear.liningF.state, d.wear.liningF.count, d.nv.writing, d.notices.brk.hasHeld .wearWarn) =
      (.warned, 400000, some (.wear .liningF 400000), true) := by decide
theorem test_wear_reset_waits_behind_a_write :
    let d := after (.wearReset .svc 2 1) (writingD parkD (.wear .liningR 5))
    (d.wear.liningF.pending, d.nv.writing, d.tx.svc.frames) = (true, some (.wear .liningR 5), []) := by decide
theorem test_counter_read_clears :
    let d := after (.counterRead .svc 2 7 1) { runD with alloc := { runD.alloc with regenTotal := 9, applyCount := 4 } }
    (lastFrame d .svc, d.alloc.regenTotal, d.alloc.applyCount) =
      (some (.answer 0x21 2 .done [⟨8, 9⟩, ⟨8, 0⟩, ⟨4, 4⟩]), 0, 0) := by decide
theorem test_engine_unlock :
    let d := after (.engineUnlock .svc 2) (withSeq runD fun q => { q with state := .lockedOut, attempts := 3 })
    (d.seq.attempts, lastFrame d .svc) = (0, some (.answer 0x22 2 .done [])) := by decide
theorem test_ignition_bounce :
    let d := after (.ignitionLineChange false) runD
    (d.mode.debounce, (after (.ignitionLineChange true) d).mode.debounce) = (some 100, none) := by decide
/-- Key-off with the engine running (section 2.5): SHUTDOWN, KEY_OFF_STOP holding, RUNNING to STOPPING directly. -/
theorem test_key_off :
    let d := after .ignitionDebounceExpiry
      (withMode { runD with ignLine := false } fun m => { m with debounce := some 0 })
    (d.mode.mode, d.mode.shutdown, d.arbiter.holder, d.seq.state) =
      (.shutdown, some 30000, some .keyOffStop, .stopping) := by decide
theorem test_door_line_halts :
    let d := after (.doorLineChange true) runD
    (d.mode.mode, d.mode.origin, d.mode.doorDisagree) = (.halt, some .run, some 2000) := by decide
theorem test_door_closed_returns_to_run :
    (after .doorClosed
        (withMode runD fun m =>
          { m with mode := .halt, origin := some .run, doorAgree := some 0,
                   flags := some ⟨false, false, true⟩ })).mode.mode = .run := by decide
theorem test_door_disagree :
    (after .doorDisagree (withMode runD fun m => { m with doorDisagree := some 0 })).notices.veh.hasPulse .doorDisagree
      = true := by decide
theorem test_reset_with_ignition_wakes :
    let d := after (.reset .resetLine) { heldD with ignLine := true }
    (d.mode.mode, d.mode.xcvrWake, d.ring.seq, (d.ring.at 0).map Record.subject) = (.waking, true, 2, some (some 2)) := by decide +kernel
theorem test_reset_asserted : (after .resetAsserted runD).inReset = true := by decide
/-- A cycle grants, restarts its timer, and counts a repeat where nothing was unread (R7, R37). -/
theorem test_allocation_cycle_grants :
    let d := after .allocationCycle
      { runD with route := { runD.route with eRes := 80000000 } }
    (d.alloc.timer, (d.tx.trc.frames.map TxFrame.isGrant), (d.link .trc).counters.repeats) = (some 10, [true], 1) := by decide
theorem test_wake_slow :
    let d := after .wakeSlow (withMode runD fun m => { m with mode := .waking, wake := some 0 })
    (d.mode.mode, d.mode.wake, d.ring.seq) = (.waking, none, 2) := by decide
theorem test_shutdown_limit :
    (after .shutdownLimit (withMode runD fun m => { m with mode := .shutdown, shutdown := some 0 })).mode.mode = .park := by
  decide
theorem test_crank_fails :
    let d := after .crankTimerExpiry (withSeq (inSeq runD .cranking) fun q => { q with crank := some 0, attempts := 1 })
    (d.seq.state, d.seq.attempts, d.seq.gap) = (.off, 2, some 5000) := by decide
theorem test_lockout :
    let d := after .crankTimerExpiry (withSeq (inSeq runD .cranking) fun q => { q with crank := some 0, attempts := 2 })
    (d.seq.state, d.seq.attempts, d.seq.gap, d.notices.veh.hasHeld .startLockout) = (.lockedOut, 3, none, true) := by decide
/-- A claim that calls for the engine starts the next attempt at the end of the retry gap (R123). -/
theorem test_retry_gap :
    let d := withClaim (withSeq (inSeq runD .off) fun q => { q with gap := some 0 }) .heatRun .holding 1 none
    ((after .retryGapExpiry d).seq.state, (after .retryGapExpiry d).seq.crank) = (.cranking, some 4000) := by decide
theorem test_cooldown_expiry :
    let d := after .cooldownExpiry (withSeq (inSeq runD .cooldown) fun q => { q with cool := some 0 })
    (d.seq.state, d.seq.stop) = (.stopping, some 10000) := by decide
theorem test_stop_timeout :
    let d := after .stopTimeout (withSeq (inSeq runD .stopping) fun q => { q with stop := some 0 })
    (d.seq.state, d.notices.eng.hasHeld .stopTimeout) = (.stopping, true) := by decide
theorem test_off_dwell_expiry :
    (after .offDwellExpiry (withSeq (inSeq runD .off) fun q => { q with offDwell := some 0 })).seq.offDwell = none := by
  decide
/-- The policy starts the engine below the start threshold: E_res + E_start_off is 30 MJ (R133). -/
theorem test_policy_starts :
    [29999999, 30000000].map (fun e =>
        (after .policyCheck { inSeq runD .off with account := ⟨true, e⟩ }).seq.state) = [.cranking, .off] := by decide
theorem test_run_clock_wraps :
    (after .runClockTick { runD with runClock := 0xFFFFFFFF }).runClock = 0 := by decide
/-- The completed write of a cell, and the next one in the order of R149. -/
theorem test_nv_write_complete :
    let d := { parkD with wear := { parkD.wear with batThru := { parkD.wear.batThru with pending := true } } }
    let e := after .nvWriteComplete (writingD d (.wear .liningF 7))
    (e.nv.cells.liningF.count, e.nv.writing, e.wear.batThru.pending) = (7, some (.wear .batThru 0), false) := by decide
/-- The frame of an ANSWER: kind 03, alive 0 and port 6, the request's kind and tag, the code (R175, R180). -/
theorem test_transmission_start :
    ((after (.transmissionStart .svc) (after (.drainStop .svc 2) runD)).tx.svc.sending.getD []).take 5 =
      [0x03, 0x06, 0x1C, 0x02, 0x0A] := by decide
theorem test_transmission_complete :
    let d := after (.transmissionComplete .svc) (after (.transmissionStart .svc) (after (.drainStop .svc 2) runD))
    (d.tx.svc.frames, d.tx.svc.sending, d.tx.svc.alive) = ([], none, 1) := by decide
/-- A command at the front runs, and the rest of the queue waits. -/
theorem test_step_takes_the_front :
    (match step ⟨[.runClockTick, .wakeSlow], runD⟩ with
      | .next t => decide (t.pending = [.wakeSlow] ∧ t.dev.runClock = 1)
      | _ => false) = true := by decide
/-- A block whose write a CONFIG_WRITE starts in the ms in which a WEAR_RESET is taken is written behind the wear cell
(R184; log 31). -/
theorem test_wear_cell_before_the_block :
    let d := after (.wearReset .svc 2 5) (after (.configWrite .svc 1 2 100) parkD)
    (d.nv.writing, d.nv.left, d.nv.blockPending, d.wear.engRun.pending) = (some (.wear .engRun 0), some 5, true, false) := by
  decide
/-- A WEAR_SET is none of the two that R184 puts first: the block's write goes on (R149). -/
theorem test_wear_set_waits_behind_the_block :
    let d := after (.wearSet .svc 2 5 7) (after (.configWrite .svc 1 2 100) parkD)
    (d.nv.writing, d.nv.blockPending, d.wear.engRun.pending) = (some (.block d.params.vals), false, true) := by
  decide
/-- The expiry of a timer that has come to 0 comes before any time passes, and the run clock's tick begins its period
anew. -/
theorem test_expiry_comes :
    (match step ⟨[], { runD with alloc := { runD.alloc with timer := some 0 } }⟩,
        step ⟨[], { runD with clockLeft := 0 }⟩ with
      | .next t, .next u =>
        decide (t.pending = [.allocationCycle] ∧ t.dev.seq.policy = some 100
          ∧ u.pending = [.runClockTick] ∧ u.dev.clockLeft = 10)
      | _, _ => false) = true := by decide
/-- A tick counts a timer down and brings no expiry. -/
theorem test_empty_queue_passes_a_millisecond :
    (match step ⟨[], { runD with alloc := { runD.alloc with timer := some 7 } }⟩ with
      | .next t => decide (t.pending = [] ∧ t.dev.alloc.timer = some 6)
      | _ => false) = true := by decide

/-! ## Witnesses: states and operands that meet the hypotheses of each statement, clause by clause -/

/-- A link in a state that holds nothing. -/
def emptied (x : LinkState) (freeze : Bool) (l : Link) : Link :=
  { l with state := x, expected := none, unread := [], taken := none, freeze := freeze }

/-- Each hypothesis of a STATUS frame that is accepted: a counter judged good, and the two gaps. -/
def accepted (d : Device) (body : StatusBody) : Prop :=
  ∀ a ∈ [(0 : BitVec 4), 1, 2], d.acceptsStatus a body

/-- Held; no expiry due, a timer 1 ms from its end; one due, and two. -/
theorem witness_EmptyQueuePassesTime :
    let d (n : Nat) := { runD with alloc := { runD.alloc with timer := some n } }
    let due (d : Device) := (partTimers.filter fun x => decide (x.read d = some 0)).map PartTimer.expiry
    heldD.inReset = true ∧ runD.inReset = false ∧ due (d 1) = [] ∧ (d 1).clockLeft ≠ 0 ∧ due (d 0) = [.allocationCycle]
      ∧ due (withSeq (d 0) fun q => { q with policy := some 0 }) = [.allocationCycle, .policyCheck] := by
  and_intros <;> decide
theorem witness_HeldInReset :
    runD.inReset = false ∧ (writingD runD (.wear .engRun 3)).inReset = false
      ∧ heldD.inReset = true ∧ Instr.runClockTick ≠ .reset .powerOn ∧ Instr.runClockTick ≠ .reset .resetLine
      ∧ Instr.runClockTick.isLine = false := by decide
theorem witness_StatusNotAccepted_asleep :
    parkD.inReset = false ∧ parkD.mode.mode = .park ∧ (StatusBody.trc false 0 0).wake = false := by decide
theorem witness_StatusNotAccepted_ignored :
    let d := withParam (withLink runD .trc (emptied .lost true)) 62 1
    d.inReset = false ∧ d.mode.mode ≠ .park ∧ d.ignoresStatus (StatusBody.trc true 0 0).member = true := by decide
theorem witness_StatusNotAccepted_judged :
    runD.inReset = false ∧ runD.mode.mode ≠ .park ∧ runD.ignoresStatus .trc = false ∧ (runD.link .trc).expected = some 0
      ∧ (15 : BitVec 4) - 0 + 1 = 0 ∧ 4 ≤ ((3 : BitVec 4) - 0 + 1).toNat ∧ 4 ≤ ((14 : BitVec 4) - 0 + 1).toNat := by
  decide
theorem witness_BadFrameCounted :
    let d := withParam (withLink runD .trc (emptied .lost true)) 62 1
    runD.inReset = false ∧ parkD.inReset = false ∧ parkD.mode.mode = .park
      ∧ (Port.trc.member = some .trc ∧ d.inReset = false ∧ d.ignoresStatus .trc = true)
      ∧ (runD.mode.mode ≠ .park ∧ runD.ignoresStatus .trc = false) := by decide
theorem witness_AcceptedFrameStored :
    accepted runD (.trc false 1 1) ∧ accepted runD (.brk false false 0 0 0 0 0) ∧ accepted runD (.veh false false true 0 0)
      ∧ runD.mode.mode ≠ .park ∧ (runD.link .trc).state = .aligned
      ∧ ((withLink runD .trc fun l => { l with state := .suspect, unread := [⟨14, .trc false 0 0⟩, ⟨15, .trc false 0 0⟩] }).link
          .trc).state = .suspect := by
  unfold accepted; and_intros <;> decide
theorem witness_LinkAligns :
    let silent := withLink runD .trc (emptied .silent false)
    let lost := withLink runD .trc (emptied .lost true)
    let aligning (n : Nat) := withLink runD .trc fun l => { l with state := .aligning, accepted := n, taken := none }
    silent.acceptsStatus 9 (.trc false 1 1) ∧ (silent.link .trc).state = .silent
      ∧ lost.acceptsStatus 9 (.trc false 1 1) ∧ (lost.link .trc).state = .lost
      ∧ (aligning 6).acceptsStatus 0 (.trc false 1 1) ∧ ((aligning 6).link .trc).state = .aligning
      ∧ (aligning 7).acceptsStatus 2 (.trc false 1 1) ∧ ((aligning 7).link .trc).accepted = 7
      ∧ runD.mode.mode ≠ .park ∧ (after (.statusFrame 2 (.trc false 1 1)) (aligning 7)).mode.mode ≠ .park
      ∧ (after (.statusFrame 9 (.trc false 1 1)) lost).mode.mode ≠ .park := by
  and_intros <;> decide
/-- The eighth frame, with a gap before it, leaves no freeze; the seventh leaves it set (R3, R8). -/
theorem test_eighth_frame_clears_freeze :
    let d (n : Nat) :=
      after (.statusFrame 2 (.trc false 1 1)) (withLink runD .trc fun l => { l with state := .aligning, accepted := n })
    (((d 6).link .trc).state, ((d 6).link .trc).freeze, ((d 7).link .trc).state, ((d 7).link .trc).freeze,
        ((d 7).link .trc).counters.gaps) = (.aligning, true, .aligned, false, 1) := by decide
theorem witness_WakeFrameWakes :
    parkD.acceptsStatus 7 (.trc true 1 1) ∧ parkD.mode.mode = .park ∧ (parkD.link .trc).state = .silent := by decide
/-- Unanchored; anchored with the two energies E_drift apart, and one step more. -/
theorem witness_EnergyAccountFollowsBat :
    let x : StatusBody := .bat false 0 0 0 8500
    runD.acceptsStatus 0 x ∧ { runD with account := ⟨false, 0⟩ }.acceptsStatus 0 x
      ∧ runD.account.anchored = true ∧ |(90000000 : Int) - 8500 * 10000| ≤ runD.params.eDrift
      ∧ (runD.params.eDrift : Int) < |(90000000 : Int) - 8499 * 10000| := by
  and_intros <;> decide
theorem witness_OdometerFollowsVeh :
    runD.acceptsStatus 0 (.veh false false true 0 255) ∧ runD.route.dRoute ≤ 4294967295
      ∧ { runD with route := { runD.route with dRoute := 4294967295 } }.acceptsStatus 0 (.veh false false true 0 1) := by
  and_intros <;> decide
/-- An entry reached and one passed by an increment of 2 m, to their last metre; the mode left by a clear wake flag. -/
theorem witness_OdometerFollowsVeh_zones :
    let d := { withZones runD [⟨1, .quiet, 0, 2, 5, true⟩, ⟨2, .emissionFree, 2, 1, 5, false⟩] with
                 mode := { runD.mode with ignition := false } }
    d.acceptsStatus 0 (.veh false false true 0 200) ∧ d.mode.mode ≠ .park ∧ d.mode.mode ≠ .shutdown
      ∧ evaluated 2 d.route.zones = [⟨2, .emissionFree, 2, 1, 5, true⟩]
      ∧ (after (.statusFrame 0 (.veh false false true 0 200)) d).mode.mode = .shutdown := by
  and_intros <;> decide
/-- A usable VEH link in every mode outside PARK, with the ignition ON and OFF; the door open by flag and by line. -/
theorem witness_OdometerFollowsVeh_doors :
    (∀ m ∈ [Mode.waking, .limited, .run, .halt, .shutdown],
        (inMode runD m).acceptsStatus 0 (.veh false true false 0 0) ∧ (inMode runD m).mode.mode ≠ .park
          ∧ (inMode runD m).usable .veh = true ∧ (inMode runD m).mode.ignition = true)
      ∧ (let d := withMode runD fun m => { m with ignition := false }
         d.acceptsStatus 0 (.veh true false true 0 0) ∧ d.usable .veh = true)
      ∧ { runD with doorLine := true }.doorLine = true
      ∧ (after (.statusFrame 0 (.veh true true false 0 0)) runD).mode.mode = .halt := by
  and_intros <;> decide
/-- A remainder that one frame brings to the quantum, and one that stays below it; the count before a mark; a start. -/
theorem witness_WearItemsFed :
    let d (n : Nat) := { runD with wear := { runD.wear with engRun := { runD.wear.engRun with rem := n } } }
    let c := withSeq (inSeq runD .cranking) fun q => { q with runTime := none, crank := some 5 }
    (d 5998).acceptsStatus 0 (.eng false 2 0) ∧ (d 5998).wearSound ∧ (d 5999).acceptsStatus 0 (.eng false 2 0)
      ∧ (d 5999).wearSound ∧ (d 5999).seqSound ∧ feedOf (d 5999) (.eng false 2 0) .engRun = 1
      ∧ c.acceptsStatus 0 (.eng false 2 0) ∧ c.wearSound ∧ c.seqSound ∧ feedOf c (.eng false 2 0) .engStart = 1 := by
  and_intros <;> decide
theorem witness_WearItemsFed_marks :
    let d (n : Nat) (x : WearState) :=
      { runD with wear := { runD.wear with engRun := ⟨n, 5999, x, false, none⟩ } }
    let warn := runD.params.get 43
    let limit := runD.params.get 44
    (d (warn - 1) .normal).acceptsStatus 0 (.eng false 2 0) ∧ (d (warn - 1) .normal).wearSound
      ∧ (d (limit - 1) .warned).wearSound ∧ (d 5 .invalid).wearSound
      ∧ stateAt runD.params .engRun warn = .warned ∧ stateAt runD.params .engRun limit = .limit := by
  and_intros <;> decide
theorem witness_SequencerFollowsEng :
    (∀ q ∈ [SeqState.off, .cranking, .running, .cooldown, .stopping, .lockedOut], ∀ code ∈ [(0 : BitVec 2), 1, 2, 3],
        (inSeq runD q).acceptsStatus 0 (.eng false code 0) ∧ (inSeq runD q).usable .eng = true)
      ∧ (∀ m ∈ [Mode.waking, .limited, .run, .halt, .shutdown],
          (inMode (inSeq runD .off) m).acceptsStatus 0 (.eng false 2 0)) ∧ runD.mode.mode ≠ .park := by
  and_intros <;> decide
/-- An ALIGNING link before and at its eighth frame, which may end WAKING; a SILENT and a LOST one; PARK. -/
theorem witness_SequencerFollowsEng_links :
    let x : StatusBody := .eng true 2 0
    let d (n : Nat) := withLink runD .eng fun l => { l with state := .aligning, accepted := n }
    let w := withLink (inMode (d 7) .waking) .bat (emptied .silent false)
    let silent := withLink runD .eng (emptied .silent false)
    let lost := withLink runD .eng (emptied .lost true)
    (d 6).acceptsStatus 0 x ∧ ((d 6).link .eng).state = .aligning ∧ ((d 6).link .eng).accepted < 7
      ∧ (d 7).acceptsStatus 0 x ∧ 7 ≤ ((d 7).link .eng).accepted ∧ (after (.statusFrame 0 x) (d 7)).mode.mode = .run
      ∧ w.acceptsStatus 0 x ∧ (after (.statusFrame 0 x) w).mode.mode = .limited
      ∧ silent.acceptsStatus 9 x ∧ silent.modeSettled ∧ lost.acceptsStatus 9 x ∧ lost.modeSettled
      ∧ parkD.acceptsStatus 9 x ∧ parkD.mode.mode = .park ∧ parkD.seq.state = .off
      ∧ (after (.statusFrame 9 x) parkD).seq.state = .running := by
  and_intros <;> decide
theorem witness_ServiceLinkAndClock :
    let d := { runD with svc := ⟨some 5000, some 100, 0⟩ }
    runD.inReset = false ∧ d.inReset = false ∧ d.svc.presence.isSome ∧ d.svc.status.isSome := by decide
/-- For TakesByState, LimitsUsed, CycleHandsGrants, GrantsCarryTheCycle and CycleCloses: a cycle that drives, with places
in the queues, and with full queues that a GRANT waits in. -/
theorem witness_cycles :
    runD.inReset = false ∧ runD.alloc.timer.isSome ∧ runD.txSound ∧ runD.afterTakes.cycleIn.drives
      ∧ (∀ m ∈ Member.all, (runD.txq m.port).frames.length < 8)
      ∧ (∀ m ∈ Member.all, ((after .allocationCycle runD).txq m.port).waiting.any TxFrame.isGrant = true) := by
  and_intros <;> decide
/-- Every member at its ninth repeated take, with the ignition ON and OFF: the losses of TakesByState. -/
theorem witness_TakesByState_losses :
    let l (d : Device) := { d with links := d.links.map fun x => { x with state := .suspect, missRun := 9 } }
    let off := withMode (l runD) fun m => { m with ignition := false }
    (∀ m ∈ Member.all, ((l runD).link m).state = .suspect ∧ ((l runD).link m).unread = [] ∧ 9 ≤ ((l runD).link m).missRun)
      ∧ (l runD).mode.ignition = true ∧ (l runD).mode.mode = .run ∧ (l runD).arbiter.sound
      ∧ (after .allocationCycle (l runD)).mode.mode ≠ .park
      ∧ off.mode.ignition = false ∧ off.mode.mode ≠ .park := by
  and_intros <;> decide
/-- Two cycles more: one in WAKING, one that closes an episode. -/
theorem witness_cycles_waking_and_braking :
    (inMode runD .waking).alloc.timer.isSome ∧ (after .allocationCycle (inMode runD .waking)).mode.mode ≠ .park
      ∧ (inMode runD .waking).afterTakes.cycleIn.mode = .waking ∧ (inMode runD .waking).txSound
      ∧ (∀ m ∈ Member.all, ((inMode runD .waking).txq m.port).frames.length < 8)
      ∧ (let d := { runD with alloc := { runD.alloc with episode := some ⟨0, 0, 1, 1, false, false, false⟩ } }
         d.alloc.timer.isSome ∧ d.afterTakes.cycleIn.drives ∧ 0 ≤ d.afterTakes.cycleIn.pD) := by
  and_intros <;> decide
/-- For Allowances, TractionCycle and BrakingCycle. -/
theorem witness_cycle_inputs :
    traction.inRange ∧ traction.drives ∧ 0 ≤ traction.pD ∧ braking.inRange ∧ braking.drives ∧ braking.pD < 0 := by
  and_intros <;> decide
/-- The clauses of Allowances at the reserve, a band above it, at the floor and one above it; those of BrakingCycle. -/
theorem witness_cycle_inputs_at_the_bounds :
    ({ traction with eBat := 80000000 } : CycleIn).inRange ∧ ({ traction with eBat := 100000000 } : CycleIn).inRange
      ∧ ({ traction with insideEmissionFree := true, eBat := 20000000 } : CycleIn).inRange
      ∧ ({ traction with insideEmissionFree := true, eBat := 20000001 } : CycleIn).inRange
      ∧ ({ traction with insideQuiet := true, running := false } : CycleIn).inRange
      ∧ ({ braking with brkUsable := false, slip := true, brkFrozen := true } : CycleIn).inRange
      ∧ ({ braking with pDem := -1 } : CycleIn).pD = -1 ∧ ({ braking with pDem := -1 } : CycleIn).inRange := by
  and_intros <;> decide
/-- The rows of the sustain fraction, at the target and one below it, and the modes of the demand's table. -/
theorem witness_TractionCycle_rows :
    ({ traction with lowCharge := true } : CycleIn).inRange ∧ ({ traction with anchored := false } : CycleIn).inRange
      ∧ ({ traction with eBat := 110000000 } : CycleIn).inRange ∧ ({ traction with eBat := 109999999 } : CycleIn).inRange
      ∧ ({ traction with mode := .limited } : CycleIn).drives ∧ ({ traction with mode := .limited } : CycleIn).pD = 300
      ∧ ({ traction with mode := .halt } : CycleIn).drives ∧ ({ traction with mode := .halt } : CycleIn).pD = 0
      ∧ ({ traction with mode := .shutdown } : CycleIn).drives
      ∧ ({ braking with mode := .halt } : CycleIn).pD = -2400 := by
  and_intros <;> decide
theorem witness_DerateFalls :
    defaultParams.sound ∧ (⟨0, 0, .normal, false, none⟩ : WearItem).state ≠ .invalid
      ∧ (⟨49999, 0, .normal, false, none⟩ : WearItem).count < defaultParams.get 53 := by
  and_intros <;> decide

/-- A member's request and SVC's: a full queue, no usable link, no kind, no right to the kind. -/
theorem witness_RequestsTurnedAway :
    (Instr.zoneCancel .eng 1 1).request = some ⟨.eng, 0x13, 1⟩ ∧ (Instr.zoneCancel .eng 1 1).sentBy .eng = false
      ∧ runD.hands .eng ∧ runD.hands .svc ∧ (Instr.unknownRequest .svc 0x7F 1).request = some ⟨.svc, 0x7F, 1⟩
      ∧ Instr.zoneCancel .eng 1 1 ≠ .unknownRequest .eng 0x13 1
      ∧ 8 ≤ ((fullD runD).txq .eng).frames.length ∧ 8 ≤ ((fullD runD).txq .svc).frames.length
      ∧ (parkD.link .eng).state ≠ .aligned ∧ (parkD.link .eng).state ≠ .suspect
      ∧ (parkD.txq .eng).frames.length < 8 := by
  and_intros <;> decide
/-- A port hands its requests to their owners, with 7 frames in its queue too: the hypothesis of ConfigRead, ValuesRead and
NoteStored, for every port. -/
theorem witness_requests_handed :
    (∀ p ∈ Port.all, runD.hands p) ∧ parkD.hands .svc
      ∧ (let q : TxQueue := ⟨List.replicate 7 (.answer 0 0 .done []), none, 0⟩
         { runD with tx := { runD.tx with svc := q } }.hands .svc)
      ∧ (ringFull 0).hands .veh ∧ (ringFull 1).hands .veh := by
  and_intros <;> decide
theorem witness_ConfigRead : runD.hands .svc ∧ (1 : Byte).toNat = 1 ∧ (70 : Byte).toNat = 70 := by and_intros <;> decide
theorem witness_ValuesRead : runD.hands .svc ∧ Item.engRun.code = (5 : Byte).toNat ∧ Member.brk.number = (5 : Byte).toNat := by
  and_intros <;> decide
theorem witness_NoteStored : (ringFull 1).hands .veh ∧ runD.hands .eng := by and_intros <;> decide
theorem witness_AckNotice :
    let d := { runD with notices := { runD.notices with eng := { runD.notices.eng with held := 0x81 } } }
    d.hands .eng ∧ 7 < (8 : Byte).toNat ∧ (d.notices.get .eng).held.getLsbD 7 = true
      ∧ (d.notices.get .eng).held.getLsbD 0 = true ∧ (d.notices.get .eng).held.getLsbD 1 = false := by
  and_intros <;> decide
/-- A refresh, a first holder, a pre-emption, a wait; no such kind, another's kind, PARK. -/
theorem witness_ClaimArrives :
    runD.hands .eng ∧ runD.hands .bat ∧ runD.arbiter.holder = none ∧ ClaimKind.filterRun.owner = some .eng
      ∧ ClaimKind.filterRun.code = (6 : Byte).toNat ∧ 8 < (9 : Byte).toNat
      ∧ claimsD.hands .eng ∧ (claimsD.claim .filterRun).state ≠ .idle
      ∧ claimsD.hands .svc ∧ claimsD.arbiter.holder = some .heatRun
      ∧ (claimsD.claim .heatRun).level < claimsD.params.claimLevel .svcStop
      ∧ (claimsD.claim .heatRun).level < claimsD.params.claimLevel .engProtectStop
      ∧ (claimsD.claim .haltStop).state = .idle ∧ claimsD.params.claimLevel .haltStop ≤ (claimsD.claim .heatRun).level
      ∧ (inMode runD .park).hands .svc ∧ (inMode runD .park).mode.mode = .park ∧ ClaimKind.svcStop.owner = some .svc := by
  and_intros <;> decide
theorem witness_ClaimsLeave :
    claimsD.arbiter.sound ∧ claimsD.hands .veh ∧ claimsD.hands .bat ∧ claimsD.hands .eng ∧ claimsD.inReset = false
      ∧ (∀ k ∈ [ClaimKind.heatRun, .lowChargeRun, .filterRun],
          (claimsD.claim k).state ≠ .idle ∧ (claimsD.claim k).age.isSome)
      ∧ (claimsD.claim .haltStop).state = .idle := by
  and_intros <;> decide
/-- A zone that ends at the odometer and one a metre on; a place, a replacement, a full queue whose last entry starts
later, and one whose last entry does not. -/
theorem witness_ZoneAddPlaces :
    let dM := exampleQueue.route.dRoute / 100
    exampleQueue.hands .veh ∧ 400 + 100 ≤ dM ∧ dM < 401 + 100
      ∧ (runD.hands .veh ∧ runD.route.zones.length < 8)
      ∧ exampleQueue.route.zones.filter (fun y => decide (y.id ≠ 5)) ≠ exampleQueue.route.zones
      ∧ exampleQueue.route.zones.filter (fun y => decide (y.id ≠ 21)) = exampleQueue.route.zones
      ∧ 8 ≤ exampleQueue.route.zones.length ∧ (exampleQueue.route.zones.getLast?).map Zone.start = some 7000 := by
  and_intros <;> decide
theorem witness_ZonesRemoved :
    eightD.hands .veh ∧ eightD.route.zones.filter (fun y => decide (y.id ≠ 8)) ≠ eightD.route.zones
      ∧ eightD.route.zones.filter (fun y => decide (y.id ≠ 9)) = eightD.route.zones := by
  and_intros <;> decide
theorem witness_ResyncRealigns :
    runD.hands .veh ∧ runD.hands .svc ∧ Member.brk.number = (5 : Byte).toNat ∧ 5 < (6 : Byte).toNat
      ∧ parkD.hands .svc ∧ parkD.mode.mode = .park ∧ runD.mode.mode = .run ∧ (runD.link .trc).state ≠ .aligning := by
  and_intros <;> decide
/-- Open in PARK and in HALT with the park brake, shut in RUN; the block outstanding. -/
theorem witness_ConfigWriteTaken :
    let haltD := withMode runD fun m => { m with mode := .halt, flags := some ⟨false, true, false⟩ }
    parkD.hands .svc ∧ parkD.params.sound ∧ parkD.nvSound ∧ parkD.mode.mode = .park ∧ parkD.blockBusy = false
      ∧ haltD.hands .svc ∧ haltD.nvSound ∧ haltD.effPark = true
      ∧ runD.hands .svc ∧ runD.nvSound ∧ runD.mode.mode = .run
      ∧ (writingD parkD (.block [])).nvSound ∧ (writingD parkD (.block [])).blockBusy = true
      ∧ (writingD parkD (.block [])).hands .svc := by
  and_intros <;> decide
theorem witness_RingConfigTaken :
    runD.hands .svc ∧ runD.params.sound ∧ runD.nvSound ∧ runD.blockBusy = false ∧ (2 : Byte) ≠ 0 ∧ (2 : Byte) ≠ 1
      ∧ (writingD runD (.block [])).hands .svc ∧ (writingD runD (.block [])).nvSound
      ∧ (writingD runD (.block [])).blockBusy = true := by
  and_intros <;> decide
theorem witness_DrainStarts :
    runD.hands .svc ∧ runD.ring.sound ∧ runD.ring.drain = .idle
      ∧ (let d := { runD with ring := { runD.ring with drain := .continuous } }
         d.hands .svc ∧ d.ring.sound ∧ d.ring.drain ≠ .idle) := by
  and_intros <;> decide
theorem witness_DrainStarts_full_ring : (ringFull 0).hands .svc ∧ (ringFull 0).ring.sound := by
  and_intros <;> decide +kernel
theorem witness_DrainEndsAndAcks :
    runD.hands .svc ∧ runD.ring.seqAt 0 = some 0 ∧ 0 ∈ List.range' runD.ring.tail (runD.ring.head - runD.ring.tail)
      ∧ (∀ q ∈ List.range' runD.ring.tail (runD.ring.head - runD.ring.tail), runD.ring.seqAt q ≠ some 1)
      ∧ { runD.ring with drain := .oneShot }.drain ≠ .idle := by
  and_intros <;> decide
theorem witness_WearCountSet :
    parkD.hands .svc ∧ parkD.nvSound ∧ parkD.mode.mode = .park ∧ parkD.itemBusy .engRun = false
      ∧ Item.engRun.code = (5 : Byte).toNat ∧ 5 < (6 : Byte).toNat
      ∧ (let d := writingD parkD (.wear .engRun 3)
         d.hands .svc ∧ d.nvSound ∧ d.itemBusy .engRun = true ∧ d.itemBusy .liningF = false)
      ∧ (let d := writingD parkD (.block [])
         let fresh := { d with nv := { d.nv with blockFresh := true } }
         d.hands .svc ∧ d.nvSound ∧ fresh.hands .svc ∧ fresh.nvSound ∧ fresh.nv.givesWay = true
           ∧ fresh.itemBusy .liningF = false)
      ∧ (let d := writingD parkD (.block [])
         let both := { d with nv := { d.nv with blockFresh := true },
                              wear := { d.wear with liningF := { d.wear.liningF with pending := true } } }
         both.hands .svc ∧ both.nvSound ∧ both.itemBusy .engRun = false
           ∧ (after (.wearReset .svc 1 5) both).nv.writing = some (.wear .liningF 0))
      ∧ runD.hands .svc ∧ runD.nvSound ∧ runD.mode.mode ≠ .park := by
  and_intros <;> decide
theorem witness_WriteCompletes :
    parkD.inReset = false ∧ parkD.nv.writing = none ∧ (writingD runD (.wear .engRun 3)).nv.writing = some (.wear .engRun 3)
      ∧ runD.mode.mode ≠ .shutdown
      ∧ (let d := { writingD parkD (.block defaultParams.vals) with
                      wear := { parkD.wear with liningR := { parkD.wear.liningR with pending := true } } }
         (Item.all.filter fun i => (d.wear.get i).pending) = [.liningR])
      ∧ (let d := writingD parkD (.wear .engRun 3)
         ({ d with nv := { d.nv with blockPending := true, blockAwaiting := some (.configWrite 1 2 3 .done) } }).nv.blockPending
           = true) := by
  and_intros <;> decide
/-- A debounce that ends quietly, and those that change the mode from PARK, SHUTDOWN and RUN. -/
theorem witness_IgnitionLine :
    let at' (d : Device) (on : Bool) : Device := withMode { d with ignLine := on } fun m => { m with debounce := some 0 }
    runD.inReset = false ∧ runD.ignLine = true ∧ (at' runD true).mode.debounce.isSome
      ∧ (at' runD true).mode.mode ≠ .park ∧ (at' runD true).mode.mode ≠ .shutdown
      ∧ (at' parkD true).mode.mode = .park ∧ (at' parkD true).mode.debounce.isSome
      ∧ (at' (inMode runD .shutdown) true).mode.mode = .shutdown ∧ (at' runD false).ignLine = false
      ∧ (at' runD false).seq.state = .running ∧ (at' (inSeq runD .off) false).seq.state = .off
      ∧ (at' (inSeq runD .off) false).nvBusy = false
      ∧ (writingD (at' (inSeq runD .off) false) (.wear .engRun 3)).nvBusy = true := by
  and_intros <;> decide
theorem witness_DoorLine :
    let d := withMode runD fun m =>
      { m with mode := .halt, origin := some .limited, doorAgree := some 0, flags := some ⟨false, false, true⟩ }
    runD.inReset = false ∧ runD.doorLine ≠ true ∧ d.inReset = false ∧ d.mode.mode = .halt ∧ d.mode.doorAgree.isSome
      ∧ d.doorLine = false ∧ d.effDoor = false := by
  and_intros <;> decide
theorem witness_ModeRecords :
    let d := withMode runD fun m => { m with wake := some 0, doorDisagree := some 0 }
    d.inReset = false ∧ d.mode.wake.isSome ∧ d.mode.doorDisagree.isSome ∧ (d.params.get 66).testBit 1 = true
      ∧ ((withParam d 66 0xC445).params.get 66).testBit 1 = false ∧ d.ring.head - d.ring.tail < 256 := by
  and_intros <;> decide
theorem witness_ShutdownLimitParks :
    let d := withMode (writingD runD (.wear .engRun 3)) fun m => { m with mode := .shutdown, shutdown := some 0 }
    d.inReset = false ∧ d.mode.shutdown.isSome := by decide
theorem witness_CrankFailsAndUnlocks :
    let d (n : Nat) := withSeq (inSeq runD .cranking) fun q => { q with crank := some 0, attempts := n }
    let l := withSeq (inSeq runD .lockedOut) fun q => { q with attempts := 3 }
    (d 1).inReset = false ∧ (d 1).seq.crank.isSome ∧ (d 1).seq.state = .cranking ∧ (d 1).mode.mode ≠ .shutdown
      ∧ (d 1).seq.attempts + 1 < (d 1).params.get 18 ∧ (d 2).seq.attempts + 1 = (d 2).params.get 18
      ∧ runD.hands .svc ∧ runD.seq.state ≠ .lockedOut ∧ l.hands .svc ∧ l.seq.state = .lockedOut
      ∧ l.mode.mode ≠ .shutdown := by
  and_intros <;> decide
theorem witness_SequencerTimers :
    let d := withSeq runD fun q => { q with gap := some 0, offDwell := some 0, cool := some 0, stop := some 0 }
    d.inReset = false ∧ d.seq.gap.isSome ∧ d.seq.offDwell.isSome ∧ d.seq.cool.isSome ∧ d.seq.stop.isSome := by decide
theorem witness_PolicyCheck : runD.inReset = false ∧ runD.seq.policy.isSome := by decide
theorem witness_Transmission :
    let d := after .serviceStatus { runD with svc := ⟨some 4000, some 0, 0⟩ }
    d.inReset = false ∧ (d.txq .svc).sending = none ∧ (d.txq .svc).frames.head? = some .serviceStatus
      ∧ ((after (.transmissionStart .svc) d).txq .svc).sending ≠ none
      ∧ ((after .allocationCycle runD).txq .eng).frames.head?.any TxFrame.isGrant = true
      ∧ (runD.txq .svc).frames = [] := by
  and_intros <;> decide
/-- The bus in RUN has every invariant, and a step answers a next state. -/
theorem witness_StepKeeps :
    runD.params.sound ∧ runD.linksSound ∧ runD.modeSound ∧ runD.parkSound ∧ zonesSound runD.route.zones
      ∧ zonesPlaced runD.dRouteM runD.route.zones ∧ runD.energySound ∧ runD.zoneStopSound ∧ runD.arbiter.sound
      ∧ runD.raisesSound ∧ runD.seqSound ∧ runD.wearSound ∧ runD.nvSound ∧ runD.ring.sound ∧ runD.drainSettled
      ∧ runD.txSound ∧ runD.svcSound ∧ ∃ t, step ⟨[.allocationCycle], runD⟩ = .next t := by
  and_intros <;> first | decide | exact ⟨_, rfl⟩
/-- The bus in RUN with frames unread and taken has the values, and is settled; so are the modes a step may leave. -/
theorem witness_StepKeeps_values :
    let d := withLink runD .trc fun l => { l with unread := [⟨14, .trc false 3500 4000⟩] }
    d.valuesSound ∧ runD.modeSettled ∧ runD.afterTakes.cycleIn.inRange ∧ (inMode parkD .waking).modeSettled
      ∧ { inMode runD .limited with mode := { runD.mode with mode := .limited, dwell := 49 } }.modeSettled
      ∧ (inMode runD .shutdown).modeSettled := by
  and_intros <;> decide
theorem witness_StepKeeps_waiting_claims : claimsD.arbiter.sound ∧ claimsD.raisesSound ∧ claimsD.seqSound := by
  and_intros <;> decide
theorem witness_ModeChanges :
    parkD.modeSound ∧ parkD.mode.mode = .park ∧ (Instr.statusFrame 3 (.trc true 0 0)).isReset = false
      ∧ (after (.statusFrame 3 (.trc true 0 0)) parkD).mode.mode ≠ .park
      ∧ (let d := withMode runD fun m => { m with mode := .shutdown, shutdown := some 0 }
         d.mode.mode ≠ .park ∧ (after .shutdownLimit d).mode.mode = .park) := by
  and_intros <;> decide
theorem witness_OnlyTheirCommands :
    (∃ t, exec .wakeSlow ⟨[], runD⟩ = .next t) ∧ Instr.wakeSlow.isReset = false
      ∧ (let d := { runD with notices := { runD.notices with eng := { runD.notices.eng with held := 1 } } }
         (d.notices.get .eng).held.getLsbD 0 = true) := by
  and_intros <;> first | decide | exact ⟨_, rfl⟩
theorem witness_FramesReadBack :
    (Instr.zoneAdd .veh 1 2 1 70000 300 5).wf = true
      ∧ (encodeFrame 3 (.zoneAdd .veh 1 2 1 70000 300 5)).isSome = true
      ∧ (framedOf (.zoneAdd .veh 1 2 1 70000 300 5)).isSome = true := by
  and_intros <;> decide +kernel

end Sys2Proof.Tests
end

-- Power allocation: the proofs of the statements of this family.

section
/-! SUPPORT. The arithmetic of one cycle (R43 to R55, R64 to R74): what each allowance, bound and grant of a cycle lies
between, from inputs in range. -/

namespace Sys2Proof.Machine.PowerAllocation

open Sys2Proof Sys2Proof.Machine

/-! ## Ranges that single proofs need -/

theorem band_pos {c : CycleIn} (h : c.inRange) : 1 ≤ c.eBand := by
  obtain ⟨_, _, _, _, _, _, _, _, _, hBand, _⟩ := h
  exact hBand

theorem creep_nonneg {c : CycleIn} (h : c.inRange) : 0 ≤ c.pCreep := by
  obtain ⟨_, _, _, _, _, _, _, _, _, _, _, hCreep, _⟩ := h
  exact hCreep

theorem quiet_nonneg {c : CycleIn} (h : c.inRange) : 0 ≤ c.pQuiet := by
  obtain ⟨_, _, _, _, _, _, _, _, _, _, _, _, hQuiet, _⟩ := h
  exact hQuiet

theorem rPrev_nonneg {c : CycleIn} (h : c.inRange) : 0 ≤ c.rPrev := by
  obtain ⟨_, _, _, _, _, _, _, _, _, _, _, _, _, _, _, _, _, _, hPrev⟩ := h
  exact hPrev

/-! ## Fractions of 256 -/

theorem scaled_nonneg {x k : Int} (hx : 0 ≤ x) (hk : 0 ≤ k) : 0 ≤ x * k / 256 :=
  Int.ediv_nonneg (Int.mul_nonneg hx hk) (by decide)

theorem scaled_le {x k : Int} (hx : 0 ≤ x) (hk : k ≤ 256) : x * k / 256 ≤ x := by
  have : x * k ≤ x * 256 := Int.mul_le_mul_of_nonneg_left hk hx
  omega

theorem clampInt_bounds (x : Int) {lo hi : Int} (h : lo ≤ hi) : lo ≤ clampInt x lo hi ∧ clampInt x lo hi ≤ hi := by
  unfold clampInt; omega

/-! ## Demand (R43) -/

theorem pD_eq_conditioned (c : CycleIn) : c.pD = c.conditioned := rfl

theorem pD_bounds {c : CycleIn} (h : 0 ≤ c.pCreep) : -6000 ≤ c.pD ∧ c.pD ≤ 3000 := by
  unfold CycleIn.pD clampInt
  dsimp only
  split <;> omega

theorem pD_le_creep {c : CycleIn} (h : c.mode = .limited) : c.pD ≤ c.pCreep := by
  simp only [CycleIn.pD, h]; omega

theorem pD_nonpos_of_halt {c : CycleIn} (h : c.mode = .halt ∨ c.mode = .shutdown) : c.pD ≤ 0 := by
  rcases h with h | h <;> simp only [CycleIn.pD, h] <;> omega

/-! ## Allowances (R45 to R47, R49) -/

theorem pBd1_bounds {c : CycleIn} (h : c.inRange) : 0 ≤ c.pBd1 ∧ c.pBd1 ≤ c.lim.pBd := by
  obtain ⟨hBd, _, _, _, _, _, _, hLo, hHi, _⟩ := h
  exact ⟨scaled_nonneg hBd (by omega), scaled_le hBd hHi⟩

theorem pBc1_bounds {c : CycleIn} (h : c.inRange) : 0 ≤ c.pBc1 ∧ c.pBc1 ≤ c.lim.pBc := by
  obtain ⟨_, hBc, _, _, _, _, _, hLo, hHi, _⟩ := h
  exact ⟨scaled_nonneg hBc (by omega), scaled_le hBc hHi⟩

theorem taper_eq (c : CycleIn) :
    c.taper =
      if c.anchored = false ∨ c.eBat ≤ c.eRes then 0
      else if c.eRes + c.eBand ≤ c.eBat then 256 else 256 * (c.eBat - c.eRes) / c.eBand := by
  unfold CycleIn.taper
  by_cases ha : c.anchored = false <;> simp [ha]

theorem taper_bounds {c : CycleIn} (h : 1 ≤ c.eBand) : 0 ≤ c.taper ∧ c.taper ≤ 256 := by
  unfold CycleIn.taper
  split
  · omega
  · split
    · omega
    · split
      · omega
      · exact ⟨Int.ediv_nonneg (by omega) (by omega), Int.ediv_le_of_le_mul (by omega) (by omega)⟩

theorem limp_iff (c : CycleIn) :
    c.limp = true ↔ c.insideEmissionFree = true ∧ (c.anchored = false ∨ c.eBat ≤ c.eFloor) := by
  simp [CycleIn.limp]

theorem pBd2_outside {c : CycleIn} (h : c.insideEmissionFree = false) : c.pBd2 = c.pBd1 * c.taper / 256 := by
  simp [CycleIn.pBd2, h]

theorem pBd2_limp {c : CycleIn} (h : c.limp = true) : c.pBd2 = min c.pBd1 c.pCreep := by
  simp [CycleIn.pBd2, h, ((limp_iff c).1 h).1]

theorem pBd2_inside {c : CycleIn} (hz : c.insideEmissionFree = true) (h : c.limp = false) : c.pBd2 = c.pBd1 := by
  simp [CycleIn.pBd2, h, hz]

theorem pBd2_bounds {c : CycleIn} (h : c.inRange) : 0 ≤ c.pBd2 ∧ c.pBd2 ≤ c.pBd1 := by
  have ⟨h1, _⟩ := pBd1_bounds h
  have hCreep := creep_nonneg h
  have ⟨ht0, ht1⟩ := taper_bounds (band_pos h)
  cases hz : c.insideEmissionFree with
  | false => rw [pBd2_outside hz]; exact ⟨scaled_nonneg h1 ht0, scaled_le h1 ht1⟩
  | true =>
    cases hl : c.limp with
    | false => rw [pBd2_inside hz hl]; omega
    | true => rw [pBd2_limp hl]; omega

theorem pGa_bounds {c : CycleIn} (h : c.inRange) : 0 ≤ c.pGa ∧ c.pGa ≤ c.lim.pGen := by
  have hQuiet := quiet_nonneg h
  obtain ⟨_, _, hGen, _⟩ := h
  unfold CycleIn.pGa
  dsimp only
  split <;> split <;> omega

theorem pGa_eq_zero {c : CycleIn} (h : c.inRange) (hr : c.running = false) : c.pGa = 0 := by
  have hQuiet := quiet_nonneg h
  unfold CycleIn.pGa
  dsimp only
  split <;> simp only [hr, Bool.false_eq_true, if_false]
  omega

theorem pGa_le_quiet {c : CycleIn} (h : c.insideQuiet = true) : c.pGa ≤ c.pQuiet := by
  simp only [CycleIn.pGa, h, if_true]; omega

theorem pGa_running {c : CycleIn} (hr : c.running = true) (hq : c.insideQuiet = false) : c.pGa = c.lim.pGen := by
  simp [CycleIn.pGa, hr, hq]

/-- Settles O21: the bounds of each allowance, and its rows by zone, anchoring and energy. -/
theorem allowances : Obligations.Allowances := by
  intro c h
  have ⟨hBd0, hBd⟩ := pBd1_bounds h
  have ⟨hBc0, hBc⟩ := pBc1_bounds h
  have ⟨hB20, hB2⟩ := pBd2_bounds h
  have ⟨hGa0, hGa⟩ := pGa_bounds h
  have notLimp : c.anchored = true → c.eFloor < c.eBat → c.limp = false := fun ha he => by
    simp [CycleIn.limp, ha, he]
  refine ⟨rfl, rfl, fun hz => by rw [pBd2_outside hz, taper_eq], hBd0, hBd, hBc0, hBc, hB20, hB2, fun hz he => ?_,
    fun hz ha he => ?_, fun hz ha he => pBd2_inside hz (notLimp ha he), fun hz he => pBd2_limp ((limp_iff c).2 ⟨hz, he⟩),
    hGa0, hGa, pGa_eq_zero h, pGa_le_quiet, pGa_running⟩
  · rw [pBd2_outside hz, taper_eq, if_pos he]; simp
  · have hBand := band_pos h
    have hrow : ¬(c.anchored = false ∨ c.eBat ≤ c.eRes) := by
      rw [ha, not_or]
      exact ⟨by decide, by omega⟩
    rw [pBd2_outside hz, taper_eq, if_neg hrow, if_pos he]
    exact Int.mul_ediv_cancel _ (by decide)

/-! ## Traction path (R51 to R53) -/

theorem allocate_of_drives {c : CycleIn} (h : c.drives) : c.allocate = if c.pD < 0 then c.brake else c.traction := by
  obtain ⟨hw, hp⟩ := h
  unfold CycleIn.allocate
  cases hm : c.mode with
  | waking => exact absurd hm hw
  | park => exact absurd hm hp
  | limited | run | halt | shutdown => rfl

theorem sustain_eq (c : CycleIn) :
    c.sustain =
      if c.lowCharge = true ∨ c.anchored = false then 256
      else if c.eRes + c.eLift ≤ c.eBat then 0
      else min (256 * (c.eRes + c.eLift - c.eBat) / c.eBand) 256 := by
  unfold CycleIn.sustain CycleIn.eTarget
  by_cases hl : c.lowCharge = true <;> simp [hl]

theorem sustain_bounds {c : CycleIn} (h : 1 ≤ c.eBand) : 0 ≤ c.sustain ∧ c.sustain ≤ 256 := by
  rw [sustain_eq]
  split
  · omega
  · split
    · omega
    · have : 0 ≤ 256 * (c.eRes + c.eLift - c.eBat) / c.eBand := Int.ediv_nonneg (by omega) (by omega)
      omega

theorem pT_nonneg {c : CycleIn} (h : c.inRange) (hd : 0 ≤ c.pD) : 0 ≤ c.pT := by
  have ⟨hB2, _⟩ := pBd2_bounds h
  have ⟨hGa, _⟩ := pGa_bounds h
  obtain ⟨_, _, _, hTm, _⟩ := h
  unfold CycleIn.pT; omega

theorem pT_le_supply (c : CycleIn) : c.pT ≤ c.pBd2 + c.pGa := by unfold CycleIn.pT; omega

theorem pT_le_pD (c : CycleIn) : c.pT ≤ c.pD := by unfold CycleIn.pT; omega

/-- The bounds of the generator grant leave room: L lies within U (R53). -/
theorem genLow_le_genHigh {c : CycleIn} (h : c.inRange) (hd : 0 ≤ c.pD) : c.genLow ≤ c.genHigh := by
  have ⟨hB2, _⟩ := pBd2_bounds h
  have ⟨hGa, _⟩ := pGa_bounds h
  have ⟨hBc, _⟩ := pBc1_bounds h
  have hT := pT_nonneg h hd
  have hS := pT_le_supply c
  unfold CycleIn.genLow CycleIn.genHigh; omega

/-! ## Braking blend (R64 to R74) -/

theorem pGBraking_bounds {c : CycleIn} (h : c.inRange) :
    0 ≤ c.pGBraking ∧ c.pGBraking ≤ c.pGa ∧ c.pGBraking ≤ c.pBc1 := by
  have ⟨hGa, _⟩ := pGa_bounds h
  have ⟨hBc, _⟩ := pBc1_bounds h
  obtain ⟨_, _, _, _, _, _, _, _, _, _, hMin, _⟩ := h
  unfold CycleIn.pGBraking; omega

theorem rCap_nonneg {c : CycleIn} (h : c.inRange) (hd : c.pD < 0) : 0 ≤ c.rCap := by
  have ⟨_, _, hG⟩ := pGBraking_bounds h
  obtain ⟨_, _, _, _, hRm, _, _, _, _, _, _, _, _, _, _, _, hReg, _⟩ := h
  unfold CycleIn.rCap CycleIn.demandB CycleIn.room; omega

theorem regen_of_withdrawn {c : CycleIn} (h : c.brkUsable = false ∨ c.slip = true) : c.regen = 0 := by
  have : c.withdrawn = true := by simpa [CycleIn.withdrawn] using h
  simp [CycleIn.regen, this]

theorem regen_eq_ramp {c : CycleIn} (hu : c.brkUsable = true) (hs : c.slip = false) (hf : c.brkFrozen = false) :
    c.regen = min c.rCap (c.rPrev + c.rUp) := by
  simp [CycleIn.regen, CycleIn.withdrawn, hu, hs, hf]

theorem regen_le_prev {c : CycleIn} (h : 0 ≤ c.rPrev) (hf : c.brkFrozen = true) : c.regen ≤ c.rPrev := by
  unfold CycleIn.regen
  dsimp only
  split
  · exact h
  · omega

/-- R lies between 0 and both its cap and its ramp, in every row of R67 and R68. -/
theorem regen_bounds {c : CycleIn} (h : c.inRange) (hd : c.pD < 0) :
    0 ≤ c.regen ∧ c.regen ≤ c.rCap ∧ c.regen ≤ c.rPrev + c.rUp := by
  have hCap := rCap_nonneg h hd
  obtain ⟨_, _, _, _, _, _, _, _, _, _, _, _, _, _, _, _, _, hUp, hPrev⟩ := h
  unfold CycleIn.regen
  dsimp only
  split
  · omega
  · split <;> omega

theorem bias_eq (c : CycleIn) :
    c.bias =
      if c.wornF = true ∧ c.wornR = false then -c.w else if c.wornF = false ∧ c.wornR = true then c.w else 0 := by
  unfold CycleIn.bias
  cases c.wornF <;> cases c.wornR <;> rfl

theorem share_bounds {c : CycleIn} (h : c.inRange) : c.sLo ≤ c.share ∧ c.share ≤ c.sHi := by
  obtain ⟨_, _, _, _, _, _, _, _, _, _, _, _, _, _, hShare, _⟩ := h
  exact clampInt_bounds _ hShare

/-- The split by a share of at most 255 leaves both axles a part of the total (R72). -/
theorem splitFriction_bounds {f share : Int} (hf : 0 ≤ f) (h0 : 0 ≤ share) (h1 : share ≤ 255) :
    0 ≤ (splitFriction f share).front ∧ 0 ≤ (splitFriction f share).rear
      ∧ (splitFriction f share).front + (splitFriction f share).rear = f := by
  have hlo : 0 ≤ f * share := Int.mul_nonneg hf h0
  have hhi : f * share ≤ f * 255 := Int.mul_le_mul_of_nonneg_left h1 hf
  simp only [splitFriction]; omega

/-- What fitting a split to the capacities of the axles gives (R73): the total shrinks only where both axles end at their
capacities, and a split that ends below both was not changed. -/
theorem fitted_bounds {capF capR : Int} {x : Split} (hF : 0 ≤ capF) (hR : 0 ≤ capR) (hxF : 0 ≤ x.front)
    (hxR : 0 ≤ x.rear) :
    let y := rearStep capF capR (frontStep capF x)
    0 ≤ y.front ∧ 0 ≤ y.rear ∧ y.front ≤ capF ∧ y.rear ≤ capR ∧ y.front + y.rear ≤ x.front + x.rear
      ∧ (y.front + y.rear < x.front + x.rear → y.front = capF ∧ y.rear = capR)
      ∧ (y.front < capF → y.rear < capR → y = x) := by
  obtain ⟨f, r⟩ := x
  dsimp only at hxF hxR
  by_cases hfront : capF < f
  · have hstep : frontStep capF ⟨f, r⟩ = ⟨capF, r + (f - capF)⟩ := if_pos hfront
    rw [hstep]
    by_cases hrear : capR < r + (f - capF)
    · simp only [rearStep, hrear, if_true, Split.mk.injEq, and_true]; and_intros <;> intros <;> omega
    · simp only [rearStep, hrear, if_false, Split.mk.injEq, true_and]; and_intros <;> intros <;> omega
  · have hstep : frontStep capF ⟨f, r⟩ = ⟨f, r⟩ := if_neg hfront
    rw [hstep]
    by_cases hrear : capR < r
    · simp only [rearStep, hrear, if_true, Split.mk.injEq, and_true]; and_intros <;> intros <;> omega
    · simp only [rearStep, hrear, if_false, implies_true, and_true]; and_intros <;> intros <;> omega

/-- A cycle reads FILTER_RUN's minimum load, LOW_CHARGE_RUN and P_dem as the blocks hold them (R41, R50). -/
theorem cycleIn_reads (d : Device) :
    d.cycleIn.minLoad = (if (d.claim .filterRun).state = .holding then ((d.claim .filterRun).load : Int) else 0)
      ∧ d.cycleIn.lowCharge = decide ((d.claim .lowChargeRun).state = .holding)
      ∧ d.cycleIn.pDem =
        (match (d.link .veh).state, (d.link .veh).taken with
          | .aligned, some ⟨_, .veh _ _ _ p _⟩ => p
          | .suspect, some ⟨_, .veh _ _ _ p _⟩ => p
          | _, _ => 0) := by
  refine ⟨rfl, rfl, ?_⟩
  change takenOr (d.link .veh) Status.pDem 0 = _
  unfold takenOr
  cases (d.link .veh).state with
  | silent => rfl
  | aligning => rfl
  | lost => rfl
  | aligned | suspect =>
    rcases (d.link .veh).taken with _ | ⟨_, _ | _ | _ | _ | _⟩ <;> rfl

/-- The generator grant of a traction cycle is the greater of wish and minimum load, moved no further than the bounds of
R53 ask. -/
theorem pGTraction_spec {c : CycleIn} (h : c.inRange) (hd : 0 ≤ c.pD) :
    c.genLow ≤ c.pGTraction ∧ c.pGTraction ≤ c.genHigh
      ∧ (c.pGTraction < max c.pGw c.minLoad → c.pGTraction = c.genHigh)
      ∧ (max c.pGw c.minLoad < c.pGTraction → c.pGTraction = c.genLow) := by
  have hLU := genLow_le_genHigh h hd
  unfold CycleIn.pGTraction clampInt
  omega

/-- Settles O22, by the clamp of R53 between bounds that leave it room. -/
theorem tractionCycle : Obligations.TractionCycle := by
  intro c d
  refine ⟨cycleIn_reads d, fun h hdr hd => ?_⟩
  have ha : c.allocate = c.traction := by rw [allocate_of_drives hdr, if_neg (by omega)]
  have ⟨hsus0, hsus1⟩ := sustain_bounds (band_pos h)
  have ⟨hBc0, _⟩ := pBc1_bounds h
  have ⟨hB20, _⟩ := pBd2_bounds h
  have ⟨hGa0, _⟩ := pGa_bounds h
  have ⟨_, hD1⟩ := pD_bounds (creep_nonneg h)
  have hT0 := pT_nonneg h hd
  have hTD := pT_le_pD c
  have ⟨hL, hU, hwish, hexcess⟩ := pGTraction_spec h hd
  have hGw : c.pGw = c.pGa * c.sustain / 256 := rfl
  have hlow : c.genLow = max (c.pT - c.pBd2) 0 := rfl
  have hhigh : c.genHigh = min c.pGa (c.pT + c.pBc1) := rfl
  have hoff := fun hr => pGa_eq_zero h hr
  rw [ha]
  dsimp only [CycleIn.traction]
  rw [← sustain_eq, ← hGw]
  refine ⟨pD_eq_conditioned c, rfl, hsus0, hsus1, rfl, hT0, by omega, fun hm => ?_, fun hm => ?_, by omega, by omega, by omega,
    by omega, fun hw => ?_, fun hw => ?_, fun hr => ?_, by omega, by omega, rfl, rfl, rfl, rfl, rfl⟩
  · have := pD_le_creep hm; omega
  · have := pD_nonpos_of_halt hm; omega
  · have := hwish hw; omega
  · have := hexcess hw; omega
  · have := hoff hr; omega

/-- What the friction grants of a braking cycle are: they share out what regeneration leaves, within the capacities of a
usable BRK, and fall short of it only where both axles are at their capacities (R72 to R74). -/
theorem friction_spec {c : CycleIn} (h : c.inRange) (hd : c.pD < 0) :
    0 ≤ c.friction.front ∧ 0 ≤ c.friction.rear ∧ c.friction.front + c.friction.rear ≤ c.demandB - c.regen
      ∧ (c.brkUsable = true → c.friction.front ≤ c.lim.capF ∧ c.friction.rear ≤ c.lim.capR)
      ∧ (c.friction.front + c.friction.rear < c.demandB - c.regen →
          c.brkUsable = true ∧ c.friction.front = c.lim.capF ∧ c.friction.rear = c.lim.capR)
      ∧ (c.brkUsable = false ∨ (c.friction.front < c.lim.capF ∧ c.friction.rear < c.lim.capR) →
          c.friction.front = ((c.demandB - c.regen) * c.share + 128) / 256) := by
  have ⟨_, hR, _⟩ := regen_bounds h hd
  have hCapB : c.rCap ≤ c.demandB := by unfold CycleIn.rCap; omega
  have ⟨hs0, hs1⟩ := share_bounds h
  obtain ⟨_, _, _, _, _, hF, hRr, _, _, _, _, _, _, hLo, _, hHi, _⟩ := h
  have ⟨hf, hr, hsum⟩ :=
    splitFriction_bounds (f := c.demandB - c.regen) (share := c.share) (by omega) (by omega) (by omega)
  cases hu : c.brkUsable with
  | false =>
    have hfr : c.friction = splitFriction (c.demandB - c.regen) c.share := by simp [CycleIn.friction, hu]
    rw [hfr]
    exact ⟨hf, hr, by omega, by simp, by omega, fun _ => rfl⟩
  | true =>
    have hfr : c.friction =
        rearStep c.lim.capF c.lim.capR
          (frontStep c.lim.capF (splitFriction (c.demandB - c.regen) c.share)) := by
      simp [CycleIn.friction, hu]
    have ⟨yf, yr, yF, yR, ysum, yshort, ysame⟩ := fitted_bounds hF hRr hf hr
    rw [hfr]
    refine ⟨yf, yr, by omega, fun _ => ⟨yF, yR⟩, fun hlt => ⟨rfl, yshort (by omega)⟩, fun hlt => ?_⟩
    obtain ⟨hltF, hltR⟩ := hlt.resolve_left (by decide)
    rw [ysame hltF hltR]; rfl

/-- Settles O23, by the bounds of R, the split of the rest and its fit to the capacities. -/
theorem brakingCycle : Obligations.BrakingCycle := by
  intro c h hdr hd
  have ha : c.allocate = c.brake := by rw [allocate_of_drives hdr, if_pos hd]
  have ⟨hD0, _⟩ := pD_bounds (creep_nonneg h)
  have ⟨hB20, _⟩ := pBd2_bounds h
  have ⟨hG0, hGa, hGc⟩ := pGBraking_bounds h
  have ⟨hR0, hRcap, hRup⟩ := regen_bounds h hd
  have hcap : c.rCap = min (min c.demandB c.lim.pRm) (min (c.pBc1 - c.pGBraking) c.pRegmax) := rfl
  have ⟨hF0, hRr0, hsum, hfit, hshort, hrow⟩ := friction_spec h hd
  have ⟨hs0, hs1⟩ := share_bounds h
  have hB : c.demandB = -c.pD := rfl
  rw [ha]
  dsimp only [CycleIn.brake]
  rw [← hB]
  refine ⟨pD_eq_conditioned c, rfl, by omega, by omega, rfl, fun hr => ?_, by omega, hR0, hF0, hRr0, by omega, by omega, by omega,
    by omega, hRup, regen_of_withdrawn, fun _ => regen_le_prev (rPrev_nonneg h), fun hu hs hf => ?_, hfit,
    fun hs => hshort (by omega), hrow, ?_, hs0, hs1, by omega, by omega⟩
  · have := pGa_eq_zero h hr; omega
  · rw [regen_eq_ramp hu hs hf, hcap]
  · rw [← bias_eq]; rfl

end Sys2Proof.Machine.PowerAllocation
end

section
/-! SUPPORT. The clock of an empty queue (logs 1 and 3): the timers the clock reads, what 1 ms leaves, and which expiry
comes. -/

namespace Sys2Proof.Machine.PowerAllocation

open Sys2Proof Sys2Proof.Machine

/-- The expiries that are due, as the timers of the part list them, the run clock's tick last. -/
def dueOf (d : Device) : List Instr :=
  (partTimers.filter fun x => decide (x.read d = some 0)).map PartTimer.expiry
    ++ (if d.clockLeft = 0 then [.runClockTick] else [])

/-- The expiries of a list of timers, one by one. -/
theorem expired_eq_flatMap (d : Device) (xs : List PartTimer) :
    (xs.filter fun x => decide (x.read d = some 0)).map PartTimer.expiry
      = xs.flatMap fun x => Timer.expiry (x.read d) x.expiry := by
  induction xs with
  | nil => rfl
  | cons x xs ih =>
    by_cases hx : x.read d = some 0
    · rw [List.filter_cons_of_pos (by simp [hx]), List.map_cons, ih, List.flatMap_cons, Timer.expiry, if_pos hx]
      rfl
    · rw [List.filter_cons_of_neg (by simp [hx]), ih, List.flatMap_cons, Timer.expiry, if_neg hx]
      rfl

/-- The model lists the claims' expiries in the middle, the timers of the part at the end: the same expiries, in another
order. -/
theorem expiries_perm_dueOf (d : Device) : d.expiries.Perm (dueOf d) := by
  unfold dueOf
  rw [expired_eq_flatMap]
  simp only [partTimers, List.flatMap_append, List.flatMap_cons, List.flatMap_nil, List.flatMap_map, List.append_nil,
    Device.expiries, List.append_assoc, List.perm_append_left_iff]
  generalize ClaimKind.all.flatMap _ = claims
  simp only [← List.append_assoc, List.perm_append_right_iff]
  exact (List.Perm.of_eq (by simp only [List.append_assoc])).trans List.perm_append_comm

/-! ## One millisecond -/

theorem read_tickTimers (d : Device) {x : PartTimer} (hx : x ∈ partTimers) :
    x.read d.tickTimers = (x.read d).map fun ms => ms - 1 := by
  rcases List.mem_append.1 hx with hx | hx
  · fin_cases hx <;> rfl
  · obtain ⟨k, _, rfl⟩ := List.mem_map.1 hx
    cases k <;> rfl

theorem claim_tickTimers (d : Device) (k : ClaimKind) :
    d.tickTimers.claim k = { d.claim k with age := (d.tickTimers.claim k).age } := by
  cases k <;> rfl

theorem tickTimers_eq_timed (d : Device) : d.tickTimers = d.timed d.tickTimers := rfl

/-! ## The expiry that comes -/

theorem beginPeriod_eq (d : Device) (i : Instr) :
    d.beginPeriod i = { d with clockLeft := if i = .runClockTick then 10 else d.clockLeft } := by
  unfold Device.beginPeriod
  split <;> rfl

theorem nextExpiry_mem (free : Nat) (i : Instr) (is : List Instr) : nextExpiry free i is ∈ i :: is := by
  have hlt : Config.tieChoice free % (is.length + 1) < (i :: is).length := Nat.mod_lt _ (by simp)
  unfold nextExpiry
  rw [List.getD_eq_getElem _ _ hlt]
  exact List.getElem_mem hlt

theorem step_of_empty {s : State} (h : s.pending = []) : step s = .next s.tick := by
  simp [step, h]

theorem tick_of_none_due {s : State} (hr : s.dev.inReset = false) (h : s.dev.expiries = []) :
    s.tick = { s with dev := s.dev.tickTimers } := by
  simp [State.tick, hr, h]

/-- Where expiries are due, one of them is the next command; a free value is used where there is a choice. -/
theorem tick_of_due {s : State} (hp : s.pending = []) (hr : s.dev.inReset = false) (h : s.dev.expiries ≠ []) :
    ∃ i ∈ s.dev.expiries,
      s.tick =
        ⟨[i],
          { s.dev with
            clockLeft := if i = .runClockTick then 10 else s.dev.clockLeft,
            free := if s.dev.expiries.length = 1 then s.dev.free else s.dev.free + 1 }⟩ := by
  cases he : s.dev.expiries with
  | nil => exact absurd he h
  | cons i is =>
    cases is with
    | nil => exact ⟨i, by simp, by simp [State.tick, hr, hp, he, beginPeriod_eq]⟩
    | cons j is =>
      exact ⟨nextExpiry s.dev.free i (j :: is), nextExpiry_mem _ _ _, by
        simp [State.tick, hr, hp, he, beginPeriod_eq]⟩

/-- Settles O2: the expiries of the model's clock are those of the part's timers, up to their order. -/
theorem emptyQueuePassesTime : Obligations.EmptyQueuePassesTime := by
  intro s hp
  have hperm := expiries_perm_dueOf s.dev
  refine ⟨fun hr => ?_, fun hr hdue => ?_, fun hr hdue => ?_⟩
  · rw [step_of_empty hp]; simp [State.tick, hr]
  · have hnone : s.dev.expiries = [] := List.Perm.eq_nil (hperm.trans (.of_eq hdue))
    refine ⟨{ s with dev := s.dev.tickTimers }, ?_, hp, fun x hx => read_tickTimers _ hx, rfl, rfl, rfl, rfl,
      fun k _ => claim_tickTimers _ k, tickTimers_eq_timed _⟩
    rw [step_of_empty hp, tick_of_none_due hr hnone]
  · have hsome : s.dev.expiries ≠ [] := fun hn => hdue (hperm.symm.trans (.of_eq hn)).eq_nil
    obtain ⟨i, hi, ht⟩ := tick_of_due hp hr hsome
    refine ⟨i, hperm.mem_iff.1 hi, ?_⟩
    rw [step_of_empty hp, ht, hperm.length_eq]
    rfl

end Sys2Proof.Machine.PowerAllocation
end

section
/-! SUPPORT. What placing a GRANT makes of a member's transmit queue (R175). -/

namespace Sys2Proof.Machine.PowerAllocation

open Sys2Proof Sys2Proof.Machine

/-! ## A frame replaced in its place -/

theorem replaceFirst_map {p : TxFrame → Bool} {x : TxFrame} (hx : p x = true) (fs : List TxFrame) :
    (replaceFirst p x fs).map p = fs.map p := by
  induction fs with
  | nil => rfl
  | cons f fs ih =>
    unfold replaceFirst
    by_cases hf : p f = true
    · simp [hf, hx]
    · simp [hf, ih]

theorem replaceFirst_filter_not {p : TxFrame → Bool} {x : TxFrame} (hx : p x = true) (fs : List TxFrame) :
    (replaceFirst p x fs).filter (fun f => !p f) = fs.filter (fun f => !p f) := by
  induction fs with
  | nil => rfl
  | cons f fs ih =>
    unfold replaceFirst
    by_cases hf : p f = true
    · simp [hf, hx]
    · simp [hf, ih]

theorem replaceFirst_find {p : TxFrame → Bool} {x : TxFrame} (hx : p x = true) {fs : List TxFrame}
    (h : fs.any p = true) : (replaceFirst p x fs).find? p = some x := by
  induction fs with
  | nil => simp at h
  | cons f fs ih =>
    unfold replaceFirst
    by_cases hf : p f = true
    · simp [hf, hx]
    · simp only [List.any_cons, hf, Bool.false_or] at h
      simp [hf, ih h]

/-! ## The queue -/

theorem inTransmission_append_waiting (q : TxQueue) : q.inTransmission ++ q.waiting = q.frames := by
  unfold TxQueue.inTransmission TxQueue.waiting
  split
  · exact List.take_append_drop 1 q.frames
  · rfl

@[simp] theorem placeLatest_sending (p : TxFrame → Bool) (x : TxFrame) (q : TxQueue) :
    (q.placeLatest p x).sending = q.sending := by
  unfold TxQueue.placeLatest; repeat' split
  all_goals rfl

@[simp] theorem placeLatest_alive (p : TxFrame → Bool) (x : TxFrame) (q : TxQueue) :
    (q.placeLatest p x).alive = q.alive := by
  unfold TxQueue.placeLatest; repeat' split
  all_goals rfl

theorem full_iff (q : TxQueue) : q.full = true ↔ ¬q.frames.length < 8 := by
  rw [TxQueue.full, decide_eq_true_iff, queuePlaces, Nat.not_lt]

/-- What stands in the queue once a frame of a kind is placed: it replaces the waiting one, joins a queue with room, or is
discarded. -/
theorem placeLatest_frames (p : TxFrame → Bool) (x : TxFrame) (q : TxQueue) :
    (q.placeLatest p x).frames =
      if q.waiting.any p = true then q.inTransmission ++ replaceFirst p x q.waiting
      else if q.frames.length < 8 then q.frames ++ [x] else q.frames := by
  unfold TxQueue.placeLatest
  by_cases hw : q.waiting.any p = true
  · rw [if_pos hw, if_pos hw]
  · rw [if_neg hw, if_neg hw]
    by_cases hfull : q.frames.length < 8
    · rw [if_neg (fun h => (full_iff q).1 h hfull), if_pos hfull]
    · rw [if_pos ((full_iff q).2 hfull), if_neg hfull]

/-- No frame of another kind moves. -/
theorem placeLatest_others {p : TxFrame → Bool} {x : TxFrame} (hx : p x = true) (q : TxQueue) :
    (q.placeLatest p x).frames.filter (fun f => !p f) = q.frames.filter (fun f => !p f) := by
  rw [placeLatest_frames]
  split
  · rw [List.filter_append, replaceFirst_filter_not hx, ← List.filter_append, inTransmission_append_waiting]
  · split
    · simp [hx]
    · rfl

/-- The kinds that stand in the queue, place by place: one place more where no frame of the kind waited and there was
room. -/
theorem placeLatest_kinds {p : TxFrame → Bool} {x : TxFrame} (hx : p x = true) (q : TxQueue) :
    (q.placeLatest p x).frames.map p
      = q.frames.map p ++ (if q.waiting.any p = false ∧ q.frames.length < 8 then [true] else []) := by
  rw [placeLatest_frames]
  by_cases hw : q.waiting.any p = true
  · rw [if_pos hw, if_neg (by simp [hw]), List.map_append, replaceFirst_map hx, ← List.map_append,
      inTransmission_append_waiting, List.append_nil]
  · rw [if_neg hw]
    by_cases hfull : q.frames.length < 8
    · rw [if_pos hfull, if_pos ⟨by simpa using hw, hfull⟩]; simp [hx]
    · rw [if_neg hfull, if_neg (fun h => hfull h.2), List.append_nil]

/-- A frame in transmission stands at the front of a sound queue, so a frame joins behind it and waits. -/
theorem waiting_append {q : TxQueue} (hq : q.sending.isSome = true → q.frames ≠ []) (x : TxFrame) :
    ({ q with frames := q.frames ++ [x] } : TxQueue).waiting = q.waiting ++ [x] := by
  unfold TxQueue.waiting
  dsimp only
  split
  · next hs =>
    rw [List.drop_append_of_le_length]
    exact List.length_pos_iff.2 (hq hs)
  · rfl

theorem waiting_replaced {q : TxQueue} (h : q.waiting ≠ []) (fs : List TxFrame) :
    ({ q with frames := q.inTransmission ++ fs } : TxQueue).waiting = fs := by
  unfold TxQueue.inTransmission TxQueue.waiting at *
  dsimp only
  cases hs : q.sending.isSome with
  | false => simp
  | true =>
    simp only [hs, if_true] at h ⊢
    obtain ⟨f, rest, hf⟩ := List.exists_cons_of_ne_nil (fun hn : q.frames = [] => h (by simp [hn]))
    simp [hf]

/-- The frame of the kind that waits after the placing is the one placed, where one waited before or there was room. -/
theorem placeLatest_waits {p : TxFrame → Bool} {x : TxFrame} (hx : p x = true) {q : TxQueue}
    (hq : q.sending.isSome = true → q.frames ≠ []) (h : q.waiting.any p = true ∨ q.frames.length < 8) :
    (q.placeLatest p x).waiting.find? p = some x := by
  unfold TxQueue.placeLatest
  by_cases hw : q.waiting.any p = true
  · rw [if_pos hw, waiting_replaced (fun hn => by simp [hn] at hw), replaceFirst_find hx hw]
  · have hroom : ¬q.full = true := fun hf => (full_iff q).1 hf (h.resolve_left hw)
    have hnone : q.waiting.find? p = none := by simpa using hw
    rw [if_neg hw, if_neg hroom, waiting_append hq, List.find?_append, hnone]
    simp [hx]

end Sys2Proof.Machine.PowerAllocation
end

section
/-! SUPPORT. What the takes of a cycle and the end of its dwell leave of the member queues, the links and the allocator,
as long as the part stays out of PARK: the reports they make reach the mode controller, the arbiter and the sequencer,
and none of these touches a member's queue short of PARK entry (R35, R179). -/

namespace Sys2Proof.Machine.PowerAllocation

open Sys2Proof Sys2Proof.Machine

/-! ## The member queues -/

theorem offer_txq (d : Device) (x : Occurrence) (m : Member) : (d.offer x).txq m.port = d.txq m.port := by
  cases m <;> simp [Device.txq, Member.port, PerPort.get]

theorem offerAt_txq (d : Device) (c : Word32) (n : Nat) (x : Occurrence) (m : Member) :
    (d.offerAt c n x).txq m.port = d.txq m.port := by
  cases m <;> simp [Device.txq, Member.port, PerPort.get]

theorem offerAll_txq (d : Device) (xs : List Occurrence) (m : Member) : (d.offerAll xs).txq m.port = d.txq m.port := by
  cases m <;> simp [Device.txq, Member.port, PerPort.get]

theorem changeMode_txq (d : Device) (new : Mode) (c : ModeCause) (n : Nat) (m : Member) :
    (d.changeMode new c n).txq m.port = d.txq m.port := by
  cases m <;> simp [Device.txq, Member.port, PerPort.get]

theorem changeMode_mode_mode (d : Device) (new : Mode) (c : ModeCause) (n : Nat) :
    (d.changeMode new c n).mode.mode = new := by
  simp [Device.changeMode]

/-! ## Changes that leave links, allocator and member queues -/

/-- Links, allocator and member queues stand. -/
structure Kept (d e : Device) : Prop where
  links : e.links = d.links
  alloc : e.alloc = d.alloc
  queue : ∀ m : Member, e.txq m.port = d.txq m.port

/-- A change that neither wakes the part nor begins WAKING or SHUTDOWN, and that ends in PARK only from SHUTDOWN; short of
PARK it leaves links, allocator and member queues. -/
structure Calm (d e : Device) : Prop where
  ends : e.mode.mode = .park ∨ e.mode.mode = .shutdown → d.mode.mode = .park ∨ d.mode.mode = .shutdown
  awake : e.mode.mode ≠ .park → d.mode.mode ≠ .park
  waking : e.mode.mode = .waking → d.mode.mode = .waking
  kept : e.mode.mode ≠ .park → Kept d e

theorem Kept.trans {d e f : Device} (h : Kept d e) (g : Kept e f) : Kept d f :=
  ⟨g.links.trans h.links, g.alloc.trans h.alloc, fun m => (g.queue m).trans (h.queue m)⟩

theorem Calm.of_kept {d e : Device} (hm : e.mode.mode = d.mode.mode) (hk : Kept d e) : Calm d e := by
  constructor <;> simp [hm, hk]

theorem Calm.refl (d : Device) : Calm d d := .of_kept rfl ⟨rfl, rfl, fun _ => rfl⟩

theorem Calm.trans {d e f : Device} (h : Calm d e) (g : Calm e f) : Calm d f :=
  ⟨fun hf => h.ends (g.ends hf), fun hf => h.awake (g.awake hf), fun hf => h.waking (g.waking hf),
    fun hf => (h.kept (g.awake hf)).trans (g.kept hf)⟩

/-! ## The sequencer and the arbiter -/

theorem calm_setSeq (d : Device) (q : Sequencer) : Calm d (d.setSeq q) := .of_kept rfl ⟨rfl, rfl, fun _ => rfl⟩

theorem calm_setMode (d : Device) {m : ModeCtl} (h : m.mode = d.mode.mode) : Calm d (d.setMode m) :=
  .of_kept h ⟨rfl, rfl, fun _ => rfl⟩

theorem calm_offer (d : Device) (x : Occurrence) : Calm d (d.offer x) :=
  .of_kept (by simp) ⟨by simp, by simp, offer_txq d x⟩

theorem calm_offerAll (d : Device) (xs : List Occurrence) : Calm d (d.offerAll xs) :=
  .of_kept (by simp) ⟨by simp, by simp, offerAll_txq d xs⟩

theorem calm_offerEngine (d : Device) (e : EngineEvent) (a b : Nat) : Calm d (d.offerEngine e a b) := calm_offer d _

theorem calm_enterPark {d : Device} (h : d.mode.mode = .shutdown) (c : ModeCause) (n : Nat) : Calm d (d.enterPark c n) := by
  have hp : (d.enterPark c n).mode.mode = .park := by simp [Device.enterPark, ModeCtl.parked, ModeCtl.cleared]
  constructor <;> simp [hp, h]

theorem calm_checkPark (d : Device) : Calm d d.checkPark := by
  unfold Device.checkPark
  split
  · next hdone =>
    have hs : d.mode.mode = .shutdown := by
      simp only [Device.shutdownComplete, Bool.and_eq_true, decide_eq_true_eq] at hdone
      exact hdone.1.1
    exact calm_enterPark hs _ _
  · exact .refl d

theorem calm_seqTo (d : Device) (q : Sequencer) : Calm d (d.seqTo q) := (calm_setSeq d q).trans (calm_checkPark _)

theorem calm_toStopping (d : Device) : Calm d d.toStopping := calm_seqTo d _

theorem calm_toCooldown (d : Device) : Calm d d.toCooldown := by
  unfold Device.toCooldown
  split
  · exact calm_toStopping d
  · exact calm_seqTo d _

theorem calm_toRunningAgain (d : Device) : Calm d d.toRunningAgain := calm_seqTo d _

theorem calm_tryStart (d : Device) : Calm d d.tryStart := by
  unfold Device.tryStart
  split
  · exact calm_seqTo d _
  · exact .refl d

theorem calm_abortCrank (d : Device) (n : Nat) : Calm d (d.abortCrank n) :=
  (calm_toStopping d).trans (calm_offerEngine _ _ _ _)

/-- Whatever the directive makes of the sequencer is one of its entries. -/
theorem calm_followDirective (d : Device) : Calm d d.followDirective := by
  unfold Device.followDirective
  split
  · exact .refl d
  · cases d.seq.state with
    | off => exact calm_tryStart d
    | cranking =>
      cases d.arbiter.directive with
      | stop k => exact calm_abortCrank d _
      | policy | run _ =>
        dsimp only
        split
        · exact calm_abortCrank d _
        · exact .refl d
    | running =>
      cases d.arbiter.directive with
      | stop k =>
        dsimp only
        split
        · exact calm_toStopping d
        · exact calm_toCooldown d
      | policy =>
        dsimp only
        split
        · exact calm_toCooldown d
        · exact .refl d
      | run _ => exact .refl d
    | cooldown =>
      cases d.arbiter.directive with
      | stop k =>
        dsimp only
        split
        · exact calm_toStopping d
        · exact .refl d
      | policy =>
        dsimp only
        split
        · exact calm_toRunningAgain d
        · exact .refl d
      | run _ => exact calm_toRunningAgain d
    | stopping => exact .refl d
    | lockedOut => exact .refl d

theorem calm_applyArbiter (d : Device) (a : ArbiterStep) : Calm d (d.applyArbiter a) := by
  have h : Calm d (({ d with arbiter := a.arbiter } : Device).offerAll a.records) := by
    refine .trans ?_ (calm_offerAll _ _)
    exact .of_kept rfl ⟨rfl, rfl, fun _ => rfl⟩
  unfold Device.applyArbiter
  dsimp only
  split
  · exact h
  · exact h.trans (calm_followDirective _)

theorem calm_raiseKeyOff (d : Device) : Calm d d.raiseKeyOff := by
  unfold Device.raiseKeyOff
  split
  · exact .refl d
  · refine .trans ?_ (calm_applyArbiter _ _)
    exact .of_kept rfl ⟨rfl, rfl, fun _ => rfl⟩

theorem calm_engineLinkLost (d : Device) : Calm d d.engineLinkLost := by
  unfold Device.engineLinkLost
  dsimp only
  split
  · exact .refl d
  · exact .refl d
  all_goals exact (calm_offerEngine _ _ _ _).trans (calm_seqTo _ _)

theorem calm_engineLinkReport (d : Device) (m : Member) : Calm d (d.engineLinkReport m) := by
  unfold Device.engineLinkReport
  split
  · exact calm_tryStart d
  · exact .refl d

/-! ## The mode controller -/

theorem calm_changeMode {d : Device} (h : d.mode.mode ≠ .park) {new : Mode} (hn : new.permitsCrank = true)
    (c : ModeCause) (n : Nat) : Calm d (d.changeMode new c n) := by
  have hm := changeMode_mode_mode d new c n
  have hk : Kept d (d.changeMode new c n) := ⟨by simp, by simp, changeMode_txq d new c n⟩
  constructor <;> rw [hm]
  · rintro (rfl | rfl) <;> cases hn
  · exact fun _ => h
  · rintro rfl; cases hn
  · exact fun _ => hk

theorem calm_enterHalt {d : Device} (h : d.mode.mode ≠ .park) (o : HaltOrigin) : Calm d (d.enterHalt o) := by
  unfold Device.enterHalt
  refine .trans ?_ (calm_followDirective _)
  exact (calm_changeMode h rfl _ _).trans (calm_setMode _ (by rfl))

theorem calm_checkDoorOpen (d : Device) : Calm d d.checkDoorOpen := by
  unfold Device.checkDoorOpen
  split
  · split
    · next hm => exact calm_enterHalt (by simp [hm]) _
    · next hm => exact calm_enterHalt (by simp [hm]) _
    all_goals exact .refl d
  · exact .refl d

theorem calm_enterRun {d : Device} (h : d.mode.mode ≠ .park) (c : ModeCause) : Calm d (d.enterRun c) :=
  ((calm_changeMode h rfl _ _).trans (calm_followDirective _)).trans (calm_checkDoorOpen _)

theorem calm_checkRunReady (d : Device) : Calm d d.checkRunReady := by
  unfold Device.checkRunReady
  split
  · next hm => exact calm_enterRun (by simp [hm.1]) _
  · exact .refl d

theorem calm_enterLimited {d : Device} (h : d.mode.mode ≠ .park) (c : ModeCause) (n k : Nat) :
    Calm d (d.enterLimited c n k) := by
  unfold Device.enterLimited
  refine .trans ?_ (calm_checkRunReady _)
  refine .trans ?_ (calm_checkDoorOpen _)
  refine .trans ?_ (calm_followDirective _)
  exact (calm_changeMode h rfl _ _).trans (calm_setMode _ (by rfl))

theorem calm_evalDoorAgree (d : Device) : Calm d d.evalDoorAgree := by
  unfold Device.evalDoorAgree
  split
  · split
    · split
      · exact calm_setMode d (by rfl)
      · exact .refl d
    · exact calm_setMode d (by rfl)
  · exact .refl d

theorem calm_evalDoorDisagree (d : Device) : Calm d d.evalDoorDisagree := by
  unfold Device.evalDoorDisagree
  split
  · exact .refl d
  · split
    · exact calm_setMode d (by rfl)
    · split
      · exact calm_setMode d (by rfl)
      · exact .refl d

theorem calm_doorEvents (d : Device) : Calm d d.doorEvents :=
  ((calm_checkDoorOpen d).trans (calm_evalDoorAgree _)).trans (calm_evalDoorDisagree _)

theorem calm_unanchor (d : Device) : Calm d d.unanchor := by
  unfold Device.unanchor
  split
  · refine .trans ?_ (calm_checkRunReady _)
    refine .trans ?_ (calm_offer _ _)
    exact .of_kept rfl ⟨rfl, rfl, fun _ => rfl⟩
  · exact .refl d

/-! ## The takes -/

/-- A change that does not wake the part, and short of PARK leaves the allocator and the member queues. -/
structure QueuesKept (d e : Device) : Prop where
  awake : e.mode.mode ≠ .park → d.mode.mode ≠ .park
  alloc : e.mode.mode ≠ .park → e.alloc = d.alloc
  queue : e.mode.mode ≠ .park → ∀ m : Member, e.txq m.port = d.txq m.port

theorem Calm.queuesKept {d e : Device} (h : Calm d e) : QueuesKept d e :=
  ⟨h.awake, fun he => (h.kept he).alloc, fun he => (h.kept he).queue⟩

theorem QueuesKept.trans {d e f : Device} (h : QueuesKept d e) (g : QueuesKept e f) : QueuesKept d f :=
  ⟨fun hf => h.awake (g.awake hf), fun hf => (g.alloc hf).trans (h.alloc (g.awake hf)),
    fun hf m => (g.queue hf m).trans (h.queue (g.awake hf) m)⟩

theorem queuesKept_setLink (d : Device) (m : Member) (l : Link) : QueuesKept d (d.setLink m l) :=
  ⟨id, fun _ => rfl, fun _ _ => rfl⟩

theorem queuesKept_moveLink (d : Device) (m : Member) (l : Link) : QueuesKept d (d.moveLink m l) :=
  (queuesKept_setLink d m l).trans (calm_offer _ _).queuesKept

theorem queuesKept_raiseHeld (d : Device) (p : Port) (k : HeldKind) (b : Byte) : QueuesKept d (d.raiseHeld p k b) :=
  ⟨by simp, fun _ => by simp, fun _ m => by simp [Device.txq]⟩

theorem queuesKept_enterShutdown {d : Device} (h : d.mode.mode ≠ .park) (c : ModeCause) (n : Nat) :
    QueuesKept d (d.enterShutdown c n) := by
  have hmode : QueuesKept d (d.changeMode .shutdown c n) :=
    ⟨fun _ => h, fun _ => by simp, fun _ => changeMode_txq d _ c n⟩
  refine hmode.trans (Calm.queuesKept ?_)
  unfold Device.enterShutdown
  refine .trans ?_ (calm_checkPark _)
  refine .trans ?_ (calm_followDirective _)
  refine .trans ?_ (calm_raiseKeyOff _)
  exact calm_setMode _ (by rfl)

theorem queuesKept_linkReport (d : Device) (m : Member) (change : LinkChange) : QueuesKept d (d.linkReport m change) := by
  have hdoors : Calm d (if m = .veh then d.doorEvents else d) := by
    split
    · exact calm_doorEvents d
    · exact .refl d
  unfold Device.linkReport
  dsimp only
  generalize (if m = .veh then d.doorEvents else d) = x at hdoors ⊢
  refine hdoors.queuesKept.trans ?_
  split
  · next hloss =>
    refine queuesKept_enterShutdown (fun hp => ?_) _ _
    simp [hp, Mode.isAwake] at hloss
  · refine Calm.queuesKept ?_
    split
    · next hm =>
      split
      · refine .trans (calm_setMode x (m := { x.mode with wake := none }) rfl) ?_
        exact calm_enterLimited (by simp [hm]) _ _ _
      · exact .refl x
    · exact calm_checkRunReady x
    · next hm =>
      split
      · exact calm_enterLimited (by simp [hm]) _ _ _
      · exact .refl x
    all_goals exact .refl x

theorem queuesKept_changeLink (d : Device) (m : Member) (l : Link) (change : LinkChange) :
    QueuesKept d (d.changeLink m l change) := by
  refine ((queuesKept_moveLink d m l).trans (queuesKept_linkReport _ m change)).trans ?_
  exact (calm_engineLinkReport _ m).queuesKept

theorem queuesKept_loseLink (d : Device) (m : Member) : QueuesKept d (d.loseLink m) := by
  unfold Device.loseLink
  dsimp only
  have hreport := ((queuesKept_moveLink d m (d.link m).lose).trans
    (queuesKept_raiseHeld _ .veh .linkLost (subjectBit m.number))).trans (queuesKept_linkReport _ m .loss)
  refine hreport.trans (Calm.queuesKept ?_)
  generalize Device.linkReport _ m .loss = x
  have hdrop : Calm x ((if m = .bat then x.unanchor else x).dropClaims m.port) := by
    refine .trans ?_ (calm_applyArbiter _ _)
    split
    · exact calm_unanchor x
    · exact .refl x
  split
  · exact hdrop.trans (calm_engineLinkLost _)
  · exact hdrop

theorem queuesKept_takeOne (d : Device) (m : Member) : QueuesKept d (d.takeOne m) := by
  unfold Device.takeOne
  dsimp only
  refine (queuesKept_setLink d m (d.link m).take).trans ?_
  split
  · exact (Calm.refl _).queuesKept
  · exact queuesKept_changeLink _ _ _ _
  · exact queuesKept_changeLink _ _ _ _
  · exact queuesKept_loseLink _ _

theorem queuesKept_takeAll (d : Device) : QueuesKept d d.takeAll := by
  have hfold : ∀ (ms : List Member) (x : Device), QueuesKept x (ms.foldl Device.takeOne x) := by
    intro ms
    induction ms with
    | nil => exact fun x => (Calm.refl x).queuesKept
    | cons m ms ih => exact fun x => (queuesKept_takeOne x m).trans (ih _)
  exact hfold _ d

end Sys2Proof.Machine.PowerAllocation
end

section
/-! SUPPORT. What an allocation cycle hands to the members (R37, R38, R40, R44, R58 to R60): its sixth stage leaves what
the GRANTs are formed of, each queue receives the GRANT of the values the cycle read, and the dwell's end moves none of
them. -/

namespace Sys2Proof.Machine.PowerAllocation

open Sys2Proof Sys2Proof.Machine

/-! ## The sixth stage -/

/-- What the GRANTs are formed of stands, with the allocation timer and the member queues. -/
structure GrantsAlike (d e : Device) : Prop where
  mode : e.mode = d.mode
  links : e.links = d.links
  account : e.account = d.account
  route : e.route = d.route
  wear : e.wear = d.wear
  params : e.params = d.params
  arbiter : e.arbiter = d.arbiter
  seq : e.seq = d.seq
  timer : e.alloc.timer = d.alloc.timer
  queue : ∀ m : Member, e.txq m.port = d.txq m.port

theorem GrantsAlike.refl (d : Device) : GrantsAlike d d := ⟨rfl, rfl, rfl, rfl, rfl, rfl, rfl, rfl, rfl, fun _ => rfl⟩

theorem GrantsAlike.trans {d e f : Device} (h : GrantsAlike d e) (g : GrantsAlike e f) : GrantsAlike d f :=
  ⟨g.mode.trans h.mode, g.links.trans h.links, g.account.trans h.account, g.route.trans h.route, g.wear.trans h.wear,
    g.params.trans h.params, g.arbiter.trans h.arbiter, g.seq.trans h.seq, g.timer.trans h.timer,
    fun m => (g.queue m).trans (h.queue m)⟩

theorem alike_offerAt (d : Device) (c : Word32) (n : Nat) (x : Occurrence) : GrantsAlike d (d.offerAt c n x) := by
  constructor
  case queue => exact offerAt_txq d c n x
  all_goals simp

theorem alike_offer (d : Device) (x : Occurrence) : GrantsAlike d (d.offer x) := alike_offerAt d _ _ x

theorem alike_raisePulse (d : Device) (p : Port) (k : Pulse) : GrantsAlike d (d.raisePulse p k) := by
  constructor <;> simp [Device.txq]

theorem alike_setAlloc (d : Device) {a : Allocator} (h : a.timer = d.alloc.timer) : GrantsAlike d (d.setAlloc a) :=
  ⟨rfl, rfl, rfl, rfl, rfl, rfl, rfl, rfl, h, fun _ => rfl⟩

theorem alike_noteLimp (d : Device) (c : CycleIn) : GrantsAlike d (d.noteLimp c) := by
  unfold Device.noteLimp
  split
  · split
    · exact .refl d
    · refine .trans ?_ (alike_offer _ _)
      refine .trans ?_ (alike_raisePulse _ _ _)
      exact alike_setAlloc d (by rfl)
  · exact alike_setAlloc d (by rfl)

theorem alike_noteTraction (d : Device) (c : CycleIn) : GrantsAlike d (d.noteTraction c) := by
  unfold Device.noteTraction
  dsimp only
  split
  · refine .trans ?_ (alike_offer _ _)
    refine .trans ?_ (alike_raisePulse _ _ _)
    exact alike_setAlloc d (by rfl)
  · exact alike_setAlloc d (by rfl)

theorem alike_noteSlip (d : Device) (c : CycleIn) : GrantsAlike d (d.noteSlip c) := by
  unfold Device.noteSlip
  split
  · exact alike_offer d _
  · exact .refl d

theorem alike_noteShortfall (d : Device) (c : CycleIn) : GrantsAlike d (d.noteShortfall c) := by
  unfold Device.noteShortfall
  split
  · split
    · exact .refl d
    · refine .trans ?_ (alike_offer _ _)
      refine .trans ?_ (alike_raisePulse _ _ _)
      refine .trans ?_ (alike_raisePulse _ _ _)
      exact alike_setAlloc d (by rfl)
  · exact alike_setAlloc d (by rfl)

theorem alike_noteEpisode (d : Device) (c : CycleIn) : GrantsAlike d (d.noteEpisode c) := by
  unfold Device.noteEpisode
  split
  · exact alike_setAlloc d (by rfl)
  · split
    · exact .refl d
    · refine .trans ?_ (alike_offerAt _ _ _ _)
      exact alike_setAlloc d (by rfl)

theorem alike_noteCycle (d : Device) (c : CycleIn) : GrantsAlike d (d.noteCycle c) :=
  ((((alike_noteLimp d c).trans (alike_noteTraction _ c)).trans (alike_noteSlip _ c)).trans
    (alike_noteShortfall _ c)).trans (alike_noteEpisode _ c)

/-! ## The GRANTs -/

theorem GrantsAlike.zoneView_eq {d e : Device} (h : GrantsAlike d e) : e.zoneView = d.zoneView := by
  unfold Device.zoneView Device.dRouteM
  rw [h.params, h.route]

theorem GrantsAlike.grant_eq {d e : Device} (h : GrantsAlike d e) (c : CycleIn) (m : Member) : e.grant c m = d.grant c m := by
  cases m <;>
    simp [Device.grant, Device.grantPart, Device.link, Device.reportedEBat, h.zoneView_eq, h.links,
      h.account, h.route, h.wear, h.arbiter, h.seq]

theorem placeGrant_txq (d : Device) (j m : Member) (g : TxFrame) :
    (d.placeGrant j g).txq m.port
      = if m = j then (d.txq m.port).placeLatest TxFrame.isGrant g else d.txq m.port := by
  cases j <;> cases m <;> rfl

theorem handGrants_txq (d : Device) (c : CycleIn) (m : Member) :
    (d.handGrants c).txq m.port = (d.txq m.port).placeLatest TxFrame.isGrant (d.grant c m) := by
  cases m <;> simp [Device.handGrants, Member.all, placeGrant_txq]

/-- What a cycle that ends outside PARK leaves of the part `d` it found after its takes. -/
structure Handed (d e : Device) : Prop where
  awake : e.mode.mode ≠ .park
  waking : e.mode.mode = .waking → d.mode.mode = .waking
  links : e.links = d.links
  timer : e.alloc.timer = d.alloc.timer
  queue : ∀ m : Member, e.txq m.port = (d.txq m.port).placeLatest TxFrame.isGrant (d.grant d.cycleIn m)

/-- GRANTs handed from a part like the one the cycle read, and the close. -/
theorem handed_of_alike {d x : Device} (hd : d.mode.mode ≠ .park) (h : GrantsAlike d x) :
    Handed d ((x.handGrants d.cycleIn).closeCycle d.cycleIn) where
  awake := by simpa [Device.closeCycle, Device.setAlloc, h.mode] using hd
  waking hw := by simpa [Device.closeCycle, Device.setAlloc, h.mode] using hw
  links := by simp [Device.closeCycle, Device.setAlloc, h.links]
  timer := by simp [Device.closeCycle, Device.setAlloc, h.timer]
  queue m := by
    change (x.handGrants d.cycleIn).txq m.port = _
    rw [handGrants_txq, h.queue m, h.grant_eq]

theorem handed_wakingCycle {d : Device} (h : d.mode.mode ≠ .park) : Handed d d.wakingCycle :=
  handed_of_alike h (alike_setAlloc d (by rfl))

theorem calm_countDwell (d : Device) : Calm d d.countDwell := by
  unfold Device.countDwell
  refine .trans ?_ (calm_checkRunReady _)
  exact calm_setMode d (by rfl)

/-- The dwell's end may bring RUN or HALT: it is reached in LIMITED alone, from where no PARK follows. -/
theorem handed_drivingCycle {d : Device} (h : d.mode.mode ≠ .park) : Handed d d.drivingCycle := by
  have hh := handed_of_alike h (alike_noteCycle d d.cycleIn)
  unfold Device.drivingCycle
  dsimp only
  generalize hx : Device.closeCycle _ d.cycleIn = x at hh ⊢
  split
  · next hlim =>
    have hxm : x.mode.mode = .limited := by
      have : d.mode.mode = .limited := hlim
      rw [← hx]
      simpa [Device.closeCycle, Device.setAlloc, (alike_noteCycle d d.cycleIn).mode] using this
    have hc := calm_countDwell x
    have hawake : x.countDwell.mode.mode ≠ .park := fun hp => by
      have := hc.ends (.inl hp)
      simp [hxm] at this
    have hk := hc.kept hawake
    exact ⟨hawake, fun hw => hh.waking (hc.waking hw), hk.links.trans hh.links, (congrArg _ hk.alloc).trans hh.timer,
      fun m => (hk.queue m).trans (hh.queue m)⟩
  · exact hh

/-! ## The cycle -/

theorem allocationCycle_cases (d : Device) :
    d.allocationCycle =
      if d.afterTakes.mode.mode = .park then d.afterTakes
      else if d.afterTakes.mode.mode = .waking then d.afterTakes.wakingCycle else d.afterTakes.drivingCycle := by
  have htakes : (d.setAlloc { d.alloc with timer := some msAllocation }).takeAll = d.afterTakes := rfl
  unfold Device.allocationCycle
  rw [htakes]
  cases hm : d.afterTakes.mode.mode <;> simp [hm]

theorem handed_allocationCycle {d : Device} (h : d.afterTakes.mode.mode ≠ .park) : Handed d.afterTakes d.allocationCycle := by
  rw [allocationCycle_cases, if_neg h]
  split
  · exact handed_wakingCycle h
  · exact handed_drivingCycle h

/-- The takes of a cycle that go on past PARK have found the part awake, and leave the member queues as they were. -/
theorem afterTakes_kept {d : Device} (h : d.afterTakes.mode.mode ≠ .park) :
    d.afterTakes.alloc.timer = some 10 ∧ ∀ m : Member, d.afterTakes.txq m.port = d.txq m.port := by
  have hk := queuesKept_takeAll ({ d with alloc := { d.alloc with timer := some 10 } } : Device)
  exact ⟨congrArg Allocator.timer (hk.alloc h), hk.queue h⟩

theorem exec_allocationCycle {s : State} (hr : s.dev.inReset = false) (ht : s.dev.alloc.timer.isSome) :
    exec .allocationCycle s = .next { s with dev := s.dev.allocationCycle } := by
  simp [exec, execAllocationCycle, State.act, Device.live, Device.expire, hr, ht]

/-- Where the takes do not end in PARK, each member queue of the next state is the one before with the cycle's GRANT placed
in it. -/
theorem cycle_txq {d : Device} (h : d.afterTakes.mode.mode ≠ .park) (m : Member) :
    d.allocationCycle.txq m.port
      = (d.txq m.port).placeLatest TxFrame.isGrant (d.afterTakes.grant d.afterTakes.cycleIn m) := by
  rw [(handed_allocationCycle h).queue m, (afterTakes_kept h).2 m]

theorem grant_isGrant (d : Device) (c : CycleIn) (m : Member) : (d.grant c m).isGrant = true := rfl

theorem sending_of_txSound {d : Device} (h : d.txSound) (m : Member) (hs : (d.txq m.port).sending.isSome = true) :
    (d.txq m.port).frames ≠ [] := by
  obtain ⟨b, hb⟩ := Option.isSome_iff_exists.1 hs
  obtain ⟨_, _, _, hfront⟩ := h m.port (by cases m <;> decide)
  exact (hfront b hb).1

/-- The GRANT waits at each member, where one waited before or the queue had room (R175). -/
theorem cycle_grant_waits {d : Device} (h : d.afterTakes.mode.mode ≠ .park) (htx : d.txSound) {m : Member}
    (hroom : (d.txq m.port).waiting.any TxFrame.isGrant = true ∨ (d.txq m.port).frames.length < 8) :
    (d.allocationCycle.txq m.port).waiting.find? TxFrame.isGrant
      = some (d.afterTakes.grant d.afterTakes.cycleIn m) := by
  rw [cycle_txq h]
  exact placeLatest_waits (grant_isGrant _ _ _) (sending_of_txSound htx m) hroom

/-! ## The powers granted -/

theorem allocate_waking {c : CycleIn} (h : c.mode = .waking) : c.allocate = .waking := by
  simp [CycleIn.allocate, h]

theorem unmet_eq {c : CycleIn} (h : c.mode ≠ .park) :
    c.unmet = (decide (c.mode ≠ .waking) && decide (c.allocate.pG < c.minLoad)) := by
  unfold CycleIn.unmet
  cases hm : c.mode with
  | park => exact absurd hm h
  | waking => rfl
  | limited | run | halt | shutdown => simp

/-- A cycle brakes exactly on a negative demand (R43, R44). -/
theorem braking_iff {c : CycleIn} (h : c.mode ≠ .park) : c.allocate.braking = true ↔ c.pD < 0 := by
  by_cases hw : c.mode = .waking
  · simp [allocate_waking hw, Allocation.waking, CycleIn.pD, hw]
  · rw [allocate_of_drives ⟨hw, h⟩]
    split
    · next hd => simp [CycleIn.brake, hd]
    · next hd => simp [CycleIn.traction, hd]

/-- The part of a member's GRANT, as the statement of R58 to R60 writes it. -/
theorem grantPart_eq (d : Device) {c : CycleIn} (h : c.mode ≠ .park) (m : Member) :
    d.grantPart c m =
      match m with
      | .veh =>
        .veh (if c.pD < 0 then -(c.allocate.r + c.allocate.fF + c.allocate.fR) else c.allocate.pT)
          (d.links.map Link.state) d.zoneView d.reportedEBat (d.route.eRes / 10000) (d.wear.map WearItem.state)
      | .eng =>
        .eng (if c.mode = .waking then .none else d.seq.command) c.allocate.pG
          (decide (c.mode ≠ .waking) && decide (c.allocate.pG < c.minLoad)) d.arbiter.holderCode
      | .bat => .bat (if c.pD < 0 then -(c.allocate.r + c.allocate.pG) else c.allocate.pT - c.allocate.pG)
      | .trc => .trc (if c.pD < 0 then -c.allocate.r else c.allocate.pT)
      | .brk => .brk c.allocate.fF c.allocate.fR c.allocate.r c.allocate.share := by
  cases m <;>
    simp only [Device.grantPart, Allocation.total, Allocation.pB, Allocation.setpoint, braking_iff h, unmet_eq h]

theorem command_eq (q : Sequencer) :
    q.command = if q.state = .cranking then .start else if q.state = .stopping then .stop else .none := by
  unfold Sequencer.command
  cases q.state <;> rfl

theorem holderCode_eq (a : Arbiter) : a.holderCode = (a.holder.map ClaimKind.code).getD 0 := by
  unfold Arbiter.holderCode
  cases a.holder <;> rfl

/-- Settles O18: the member queues of the takes stand, and each has the cycle's GRANT placed in it. -/
theorem cycleHandsGrants : Obligations.CycleHandsGrants := by
  intro s hr ht htx
  refine ⟨_, exec_allocationCycle hr ht, rfl, fun he => ?_⟩
  have hp : s.dev.afterTakes.mode.mode ≠ .park := fun hp => he (by
    rw [allocationCycle_cases, if_pos hp]; exact hp)
  have hh := handed_allocationCycle hp
  refine ⟨hh.timer.trans (afterTakes_kept hp).1, fun m _ => ?_⟩
  have hg := grant_isGrant s.dev.afterTakes s.dev.afterTakes.cycleIn m
  have hq := cycle_txq hp m
  refine ⟨by rw [hq]; simp, by rw [hq]; simp, by rw [hq]; exact placeLatest_others hg _,
    by rw [hq]; exact placeLatest_kinds hg _, fun hroom => ?_⟩
  have hlink : (s.dev.afterTakes.link m).state = (s.dev.allocationCycle.link m).state := by
    rw [Device.link, Device.link, hh.links]
  rw [cycle_grant_waits hp htx hroom, Option.any_some]
  by_cases hw : s.dev.allocationCycle.mode.mode = .waking
  · have hc : s.dev.afterTakes.cycleIn.mode = .waking := hh.waking hw
    cases m <;>
      simp [Device.grant, hlink, hc, Device.grantPart, CycleIn.unmet, allocate_waking hc, Allocation.waking,
        Allocation.total, Allocation.pB, Allocation.setpoint]
  · simp [Device.grant, hlink, hw]

/-- Settles O19: the GRANT that waits is the one formed of the part after the takes. -/
theorem grantsCarryTheCycle : Obligations.GrantsCarryTheCycle := by
  intro s hr ht htx d c a hp m _ hroom
  refine ⟨_, exec_allocationCycle hr ht, rfl, ?_, fun hw => allocate_waking hw⟩
  rw [cycle_grant_waits hp htx hroom, Device.grant, grantPart_eq _ hp]
  cases m
  case eng => rw [command_eq, holderCode_eq]; rfl
  all_goals rfl

end Sys2Proof.Machine.PowerAllocation
end

-- Requests that read values: the proof of the statement of this family.

section
/-! SUPPORT. The way of a handed request to its owner (R19, R176), the names of items and counter groups (R145, R186), and
the owners of WEAR_READ and COUNTER_READ: each answers first, from values the hearing of the request has left. -/

namespace Sys2Proof.Machine.ValueReads

open Sys2Proof Sys2Proof.Machine

/-! ## Hearing -/

theorem seenFrame_eq_heard (d : Device) (p : Port) : d.seenFrame p = d.heard p := rfl

@[simp] theorem heard_links (d : Device) (p : Port) : (d.heard p).links = d.links := by
  unfold Device.heard; split <;> rfl
@[simp] theorem heard_tx (d : Device) (p : Port) : (d.heard p).tx = d.tx := by
  unfold Device.heard; split <;> rfl
@[simp] theorem heard_alloc (d : Device) (p : Port) : (d.heard p).alloc = d.alloc := by
  unfold Device.heard; split <;> rfl
@[simp] theorem heard_wear (d : Device) (p : Port) : (d.heard p).wear = d.wear := by
  unfold Device.heard; split <;> rfl
@[simp] theorem heard_nv (d : Device) (p : Port) : (d.heard p).nv = d.nv := by
  unfold Device.heard; split <;> rfl
@[simp] theorem heard_params (d : Device) (p : Port) : (d.heard p).params = d.params := by
  unfold Device.heard; split <;> rfl
@[simp] theorem heard_overruns (d : Device) (p : Port) : (d.heard p).svc.overruns = d.svc.overruns := by
  unfold Device.heard; split <;> rfl
@[simp] theorem heard_txq (d : Device) (p q : Port) : (d.heard p).txq q = d.txq q := by simp [Device.txq]
@[simp] theorem heard_link (d : Device) (p : Port) (m : Member) : (d.heard p).link m = d.link m := by simp [Device.link]

theorem heard_not_full {d : Device} {p : Port} (h : (d.txq p).frames.length < 8) : ¬((d.heard p).txq p).full = true := by
  simpa [PowerAllocation.full_iff] using h

/-! ## Replies -/

/-- With a place in the queue the answer is the queue's last frame, and all else stands. -/
theorem reply_heard {d : Device} {r : Request} (h : (d.txq r.port).frames.length < 8) (c : AnswerCode) (b : List Field) :
    (d.heard r.port).reply r c b = d.replied r.port r.kind r.tag c b := by
  rw [Device.reply, Device.answer, if_neg (heard_not_full h)]
  rfl

/-! ## Handing over -/

theorem takesRequests_heard {d : Device} {p : Port} (h : d.hands p) : (d.heard p).takesRequests p = true := by
  obtain ⟨_, _, hlink⟩ := h
  unfold Device.takesRequests
  split
  · next m hm => rcases hlink m hm with hs | hs <;> simp [Device.usable, hs, LinkState.usable]
  · rfl

/-- A request of a known kind, from a port that may send it, reaches its owner where the port hands requests over. -/
theorem takeRequest_of_hands {d : Device} {r : Request} (h : d.hands r.port) (owner : Device → Device) :
    d.takeRequest r true true owner = owner (d.heard r.port) := by
  have ⟨_, hroom, _⟩ := h
  simp only [Device.takeRequest, seenFrame_eq_heard, if_neg (heard_not_full hroom), takesRequests_heard h,
    Bool.not_true, Bool.false_eq_true, if_false]

/-- A command that is such a request ends as its owner leaves the part. -/
theorem becomes_owner {i : Instr} {s : State} {r : Request} {owner : Device → Device} (h : s.dev.hands r.port)
    (hi : exec i s = s.act fun d => d.live fun d => d.takeRequest r true true owner) :
    Becomes i s (owner (s.dev.heard r.port)) := by
  have ⟨hrun, _⟩ := h
  have hlive : ¬ s.dev.inReset = true := by simp [hrun]
  rw [Becomes, hi, State.act, Device.live, if_neg hlive, takeRequest_of_hands h]

theorem becomes_wearRead {s : State} (h : s.dev.hands .svc) (tag code : Byte) :
    Becomes (.wearRead .svc tag code) s ((s.dev.heard .svc).ownWearRead ⟨.svc, 0x1E, tag⟩ code) :=
  becomes_owner (r := ⟨.svc, 0x1E, tag⟩) (owner := fun d => d.ownWearRead ⟨.svc, 0x1E, tag⟩ code) h rfl

theorem becomes_counterRead {s : State} (h : s.dev.hands .svc) (tag code clear : Byte) :
    Becomes (.counterRead .svc tag code clear) s
      ((s.dev.heard .svc).ownCounterRead ⟨.svc, 0x21, tag⟩ code clear) :=
  becomes_owner (r := ⟨.svc, 0x21, tag⟩) (owner := fun d => d.ownCounterRead ⟨.svc, 0x21, tag⟩ code clear) h rfl

/-! ## Codes -/

theorem itemOfCode_eq_none {n : Nat} (h : n = 0 ∨ 5 < n) : Item.ofCode n = none := by
  simp only [Item.ofCode, List.find?_eq_none, decide_eq_true_eq]
  intro i _
  cases i <;> simp only [Item.code] <;> omega

theorem memberOfNumber_eq_none {n : Nat} (h : n = 0 ∨ 5 < n) : Member.ofNumber n = none := by
  simp only [Member.ofNumber, List.find?_eq_none, decide_eq_true_eq]
  intro m _
  cases m <;> simp only [Member.number, Member.port, Port.number] <;> omega

theorem counterGroupOf_eq_none {b : Byte} (h : b.toNat = 0 ∨ 7 < b.toNat) : counterGroupOf b = none := by
  have hm : Member.ofNumber b.toNat = none := memberOfNumber_eq_none (by omega)
  have h6 : b ≠ 6 := by rintro rfl; exact absurd h (by decide)
  have h7 : b ≠ 7 := by rintro rfl; exact absurd h (by decide)
  simp only [counterGroupOf, hm, if_neg h6, if_neg h7]

theorem counterGroupOf_member {b : Byte} {m : Member} (h : m.number = b.toNat) : counterGroupOf b = some (.link m) := by
  simp [counterGroupOf, ← h]

/-! ## WEAR_READ (R145) -/

theorem itemBusy_eq (d : Device) (i : Item) :
    d.itemBusy i
      = ((d.wear.get i).pending || d.nv.writing.any (fun | .wear j _ => decide (j = i) | .block _ => false)) := by
  unfold Device.itemBusy
  cases d.nv.writing with
  | none => rfl
  | some w => cases w <;> rfl

@[simp] theorem heard_itemBusy (d : Device) (p : Port) (i : Item) : (d.heard p).itemBusy i = d.itemBusy i := by
  simp [Device.itemBusy]

theorem toNat_eq_ite (b : Bool) : b.toNat = if b = true then 1 else 0 := by cases b <;> rfl

section
variable {d : Device} {r : Request} (h : (d.txq r.port).frames.length < 8)
include h

theorem ownWearRead_unknown {code : Byte} (hc : code.toNat = 0 ∨ 5 < code.toNat) :
    (d.heard r.port).ownWearRead r code = d.replied r.port r.kind r.tag .unknown [] := by
  simp only [Device.ownWearRead, itemOfCode_eq_none hc, reply_heard h]

theorem ownWearRead_item {code : Byte} {i : Item} (hi : i.code = code.toNat) :
    (d.heard r.port).ownWearRead r code
      = d.replied r.port r.kind r.tag .done
          [f8 i.code, f8 (d.wear.get i).state.code, f32 (d.wear.get i).count, f32 (d.wear.get i).rem,
            f32 (d.params.warnMark i.code), f32 (d.params.limitMark i.code), f8 (d.itemBusy i).toNat] := by
  simp only [Device.ownWearRead, ← hi, Item.ofCode_code, reply_heard h, heard_wear, heard_params, heard_itemBusy]

/-! ## COUNTER_READ (R80, R186) -/

theorem ownCounterRead_unknown {code : Byte} (clear : Byte) (hc : code.toNat = 0 ∨ 7 < code.toNat) :
    (d.heard r.port).ownCounterRead r code clear = d.replied r.port r.kind r.tag .unknown [] := by
  simp only [Device.ownCounterRead, counterGroupOf_eq_none hc, reply_heard h]

/-- A group's values are answered as they stood before the request; with the flag they are cleared behind the answer. -/
theorem ownCounterRead_group {code : Byte} {g : CounterGroup} (clear : Byte) (hg : counterGroupOf code = some g) :
    (d.heard r.port).ownCounterRead r code clear
      = if clear = 0 then d.replied r.port r.kind r.tag .done (d.counterFields g)
        else (d.replied r.port r.kind r.tag .done (d.counterFields g)).clearCounters g := by
  have hfields : (d.heard r.port).counterFields g = d.counterFields g := by
    cases g <;> simp [Device.counterFields]
  simp [Device.ownCounterRead, hg, reply_heard h, hfields, clearOf]

end

/-- A counter group whose code stands in the request: its values, cleared behind the answer where the flag says so. -/
theorem becomes_counterRead_group {s : State} (h : s.dev.hands .svc) (tag : Byte) {code : Byte} {g : CounterGroup}
    (clear : Byte) (hg : counterGroupOf code = some g) :
    let d := s.dev.replied .svc 0x21 tag .done (s.dev.counterFields g)
    Becomes (.counterRead .svc tag code clear) s (if clear = 0 then d else d.clearCounters g) := by
  have ⟨_, hroom, _⟩ := h
  have hown := becomes_counterRead h tag code clear
  rwa [ownCounterRead_group (r := ⟨.svc, 0x21, tag⟩) hroom clear hg] at hown

/-- Settles O27: each request reaches its owner, which names the item or the group and answers with what stood there. -/
theorem valuesRead : Obligations.ValuesRead := by
  intro tag code clear s h
  have ⟨_, hroom, _⟩ := h
  have hwear := becomes_wearRead h tag code
  have hcount := becomes_counterRead h tag code clear
  refine ⟨fun hc => ?_, fun i _ hi => ?_, fun hc => ?_, fun m _ hm => ?_, fun hc => ?_, fun hc => ?_⟩
  · exact ownWearRead_unknown (r := ⟨.svc, 0x1E, tag⟩) hroom hc ▸ hwear
  · rw [ownWearRead_item (r := ⟨.svc, 0x1E, tag⟩) hroom hi, toNat_eq_ite, itemBusy_eq] at hwear
    exact hwear
  · exact ownCounterRead_unknown (r := ⟨.svc, 0x21, tag⟩) hroom clear hc ▸ hcount
  · exact becomes_counterRead_group h tag clear (counterGroupOf_member hm)
  · subst hc
    exact becomes_counterRead_group h tag clear (g := .svc) rfl
  · subst hc
    exact becomes_counterRead_group h tag clear (g := .energy) rfl

end Sys2Proof.Machine.ValueReads
end
